-- ==== Sys2Proof/Word.lean ====
section
/-! DEFINITION. The number types of the Mezpa 3140: bytes, words, station IDs, slots, generations, sequences. -/

namespace Sys2Proof

/-- One byte of local memory or of a frame. -/
abbrev Byte := BitVec 8

/-- One register of the window, or a 32-bit field of a frame or record. -/
abbrev Word := BitVec 32

/-- A station ID, 0 to 15 (1.6). -/
abbrev StationId := Fin 16

/-- A slot of the Exchange Table, 0 to 15 (1.6). -/
abbrev SlotId := Fin 16

/-- A generation, 0 to 15; adding 1 is modulo 16 (R5). -/
abbrev Generation := Fin 16

/-- A window of the Window Table, 0 to 7 (3.1). -/
abbrev WindowId := Fin 8

/-- A sequence number of a DATA frame, 0 to 7; adding 1 is modulo 8 (R84). -/
abbrev SeqNo := Fin 8

/-- A trigger line, 0 to 3 (R130). -/
abbrev TriggerLine := Fin 4

end Sys2Proof
end

