-- ==== Sys2Proof/Syntax.lean ====
section
/-! DEFINITION. The commands: one constructor for each row of spec/opcode_table.json, with the row's operands.
Host commands take their argument from the ARGUMENT register when they are taken (R166), so they carry none. -/

namespace Sys2Proof

/-- The frame header after the kind code (13.4): source ID, destination ID, tag slot and tag generation. -/
structure FrameHead where
  src  : StationId
  dst  : StationId
  slot : SlotId
  gen  : Generation
deriving DecidableEq, Repr

/-- The happenings the controller takes. Frame fields stand as the numbers the frame carries (13.4); the bytes
that a read of local memory returned stand with the happening that ends the read (log 5). -/
inductive Instr where
  -- host commands (12.1)
  | join
  | leave
  | softReset
  | peerReset
  | post
  | cancel
  | stopStanding
  | hold
  | release
  | takeNote
  | busReset
  | ringRestart
  | undefinedCommandCode (code : Byte)
  -- register writes
  | ringConsumerWrite (value : Word)
  | eventWrite (value : Word)
  | eventEnableWrite (value : Word)
  | registerWrite (offset : Nat) (value : Word)
  -- power and trigger lines
  | powerOn (levels : BitVec 4) (resetLine : Bool)
  | triggerEdge (line : TriggerLine)
  -- bus lines, gaps and rounds
  | resetLineAsserted
  | resetLineFalls
  | resetPulseEnds
  | holdLineDriven
  | releaseGapExpires
  | restGap
  | turnGapExpires
  | contend
  | roundBegins
  | roundWon
  | roundLost
  | roundNoWinner
  -- frames received
  | frameBadCrc (bytes : List Byte)
  | connectReceived (head : FrameHead) (operation window : Byte) (offset length : Word)
  | acceptReceived (head : FrameHead) (offset : Word)
  | refuseReceived (head : FrameHead) (reason : Byte)
  | dataReceived (head : FrameHead) (seq : Byte) (payload : List Byte)
  | ackReceived (head : FrameHead) (seq : Byte)
  | nakReceived (head : FrameHead) (seq : Byte)
  | finishReceived (head : FrameHead) (total : Word)
  | disconnectReceived (head : FrameHead) (reason : Byte) (offset : Word)
  | endReceived (head : FrameHead)
  | resumeReceived (head : FrameHead) (offset : Word)
  | withdrawReceived (head : FrameHead) (reason : Byte)
  | abortReceived (head : FrameHead) (reason : Byte)
  | rollcallReceived (head : FrameHead) (serial : BitVec 16)
  | presentReceived (head : FrameHead)
  -- frames sent
  | frameSentGood
  | collisionDetected
  | sendData
  | sendAck
  | sendAbort
  | holdLineReleased
  -- timers
  | answerTimeout
  | ackTimeout
  | silenceTimeout
  | closeTimeout
  | resumeDeadlineExpires (slot : SlotId)
  | parkTimerExpires (initiator : StationId) (slot : SlotId) (gen : Generation)
  | rollcallTimerExpires
  -- local port and completion writer
  | localTransactionEnds (bytes : List Byte)
  | localBusError
  | descriptorLoadEnds (bytes : List Byte)
  | configLoadEnds (bytes : List Byte)
  | payloadReadEnds (bytes : List Byte)
  | payloadStoreEnds
  | segmentEntryFetched (bytes : List Byte)
  | writerTakesRecord
  | completionRecordWritten
  | copyOutEnds
  | drainComplete
  | triggerLineFalls (line : TriggerLine)
  | roundEnds
deriving DecidableEq, Repr

end Sys2Proof
end

