-- ==== Sys2Proof/Decode.lean ====
section
/-! DEFINITION. Words of commands: spec/opcode_table.json gives bits to no row, so no word spells a command. The bytes of
frames are in Machine/Frame.lean (13.4). -/

namespace Sys2Proof

/-- The command that a word spells by the table's bits: the table gives none. -/
def decodeTableWord (_nbits _w : Nat) : Option Instr := none

end Sys2Proof
end

