-- ==== Sys2Proof/Config.lean ====
section
/-! DEFINITION. The constants the manual fixes for every 3140. -/

namespace Sys2Proof.Config

/-- First address above the 32-bit local address space (R141). -/
def localTop : Nat := 4294967296

/-- Largest window offset plus one, largest length and largest offset of a frame (2.1, R55). -/
def maxLength : Nat := 16777216

/-- Largest NOTE (2.1, R32). -/
def maxNote : Nat := 32

/-- Payload of every DATA frame but the last of an exchange (6.4). -/
def frameBytes : Nat := 256

/-- DATA frames sent and not yet acknowledged (R84). -/
def credit : Nat := 4

/-- Retransmissions of one frame in one tenure (R87) and of a closing frame (R95). -/
def maxRetries : Nat := 3

/-- No-answers that end a call's owner or make a peer SILENT (R13, R38, R39, R163). -/
def maxNoAnswers : Nat := 3

/-- Busy refusals that end an exchange (R11). -/
def maxBusyRefusals : Nat := 8

/-- Collisions of a call that requeue its slot (R9), and collisions in a row of a station (R159). -/
def maxCollisions : Nat := 4

/-- Entries of the Service Table (R31). -/
def serviceEntries : Nat := 8

/-- Places of the Note Queue (R121). -/
def notePlaces : Nat := 16

/-- Largest local transaction, and the size of the aligned block it lies in (R141). -/
def blockBytes : Nat := 64

/-- Exchange descriptor, segment entry, configuration block, completion record, copy-out record (13.2, 13.3). -/
def descriptorBytes : Nat := 32
def segmentBytes : Nat := 8
def configBytes : Nat := 160
def recordBytes : Nat := 32
def copyOutBytes : Nat := 48

/-- One unit of the resume deadline and of the park limit, in µs (R103, R45). -/
def timeUnit : Nat := 64

/-- The silence limit in ack times (R88). -/
def silenceFactor : Nat := 4

/-- Largest missed-trigger count (9.2). -/
def maxMissed : Nat := 255

/-- Largest repetitions-done count (R132). -/
def maxRepetitions : Nat := 65535

end Sys2Proof.Config
end

