-- ==== Sys2Proof/Machine/State.lean ====
section
/-! DEFINITION. The state of one station, block by block (00_scope 1.4), as plain data; its reset; faults and refusals. -/

namespace Sys2Proof.Machine

/-- The model's one fault. -/
inductive Fault where
  /-- Raised by REGISTER_WRITE at an offset where the window of eleven 32-bit registers has no register (12.1).
  Safe: the model stops where the spec gives no register to write. -/
  | noSuchRegister
deriving DecidableEq, Repr

/-- Refusals. -/
inductive Refusal where
  /-- Raised by `exec` alone, for a row that has no meaning yet. Safe: the model stops. No arm raises it. -/
  | notModelled (mnemonic : String)
deriving DecidableEq, Repr

/-! ### Names of the manual -/

/-- A timer: stopped, or running with the span in µs it was last started with (log 4). -/
abbrev Timer := Option Nat

/-- Operation of an exchange (13.1). -/
inductive Operation where
  | read | write | note
deriving DecidableEq, Repr

/-- Refusal reasons (13.1). -/
inductive RefuseReason where
  | noWindow | denied | range | tableFull | notesFull | leaving | unknownTag | offset | badRequest
deriving DecidableEq, Repr

/-- Reasons of a DISCONNECT (13.1). -/
inductive DisconnectReason where
  | tenure | held
deriving DecidableEq, Repr

/-- Reasons of a WITHDRAW (13.1). -/
inductive WithdrawReason where
  | parkLimit | leaving
deriving DecidableEq, Repr

/-- Reasons of an ABORT (13.1). -/
inductive AbortReason where
  | cancelled | link | localFault
deriving DecidableEq, Repr

/-- Details of LINK_ERROR (13.1). -/
inductive LinkDetail where
  | retries | silence | offset
deriving DecidableEq, Repr

/-- Details of LOCAL_FAULT (13.1). -/
inductive FaultDetail where
  | busError | segmentShort
deriving DecidableEq, Repr

/-- Outcomes of a repetition with their details (2.9, 13.1). -/
inductive ExchangeOutcome where
  | done
  | refused (reason : RefuseReason)
  | noAnswer
  | peerSilent
  | linkError (detail : LinkDetail)
  | resumeTimeout
  | withdrawn (reason : WithdrawReason)
  | cancelled
  | busReset
  | localFault (detail : FaultDetail)
  | targetFault
  | left
deriving DecidableEq, Repr

/-- A tag: slot and generation of the initiator's exchange (R6). -/
structure Tag where
  slot : SlotId
  gen  : Generation
deriving DecidableEq, Repr

/-- The key of a service entry: initiator and tag (R30). -/
structure Key where
  initiator : StationId
  tag       : Tag
deriving DecidableEq, Repr

/-! ### Frames (4.4) -/

/-- The fields a frame carries after its header, by kind (R55, 13.4). -/
inductive Body where
  | connect (operation window : Byte) (offset length : Word)
  | accept (offset : Nat)
  | refuse (reason : RefuseReason)
  | data (seq : SeqNo) (payload : List Byte)
  | ack (seq : SeqNo)
  | nak (seq : SeqNo)
  | finish (total : Nat)
  | disconnect (reason : DisconnectReason) (offset : Nat)
  | endConnection
  | resume (offset : Nat)
  | withdraw (reason : WithdrawReason)
  | abort (reason : AbortReason)
  | rollcall (serial : BitVec 16)
  | present
deriving DecidableEq, Repr

/-- A frame: header and body (R54 to R56); the CRC is computed from it. -/
structure Frame where
  head : FrameHead
  body : Body
deriving DecidableEq, Repr

/-! ### Station Control (file 10) -/

inductive StationState where
  | offline | configuring | joining | online | leaving
deriving DecidableEq, Repr

inductive OfflineCause where
  | none | idConflict | drained
deriving DecidableEq, Repr

inductive PeerState where
  | unknown | present | silent
deriving DecidableEq, Repr

/-- An entry of the Peer Table (R163). -/
structure Peer where
  state : PeerState
  count : Nat
deriving DecidableEq, Repr

/-- The configured values in force (R155), but for the window entries. -/
structure Settings where
  id             : StationId
  serial         : BitVec 16
  answerTime     : Nat
  ackTime        : Nat
  resumeDeadline : Nat
  parkLimit      : Nat
  tenureLimit    : Nat
  ringSize       : Nat
  ringBase       : Nat
  noteSenders    : BitVec 16
deriving DecidableEq, Repr

structure Station where
  state              : StationState
  cause              : OfflineCause
  settings           : Option Settings
  rollcallDue        : Bool
  rollcallTimer      : Timer
  collisionRun       : Nat
  peers              : Vector Peer 16
deriving DecidableEq, Repr

/-! ### Bus Interface (file 03) and Arbitration Unit (file 04) -/

inductive BusView where
  | free | contending | held | reset
deriving DecidableEq, Repr

/-- Who may begin the next frame (R53): nobody yet, this station in its turn gap, the partner in its turn gap,
or either after the gap. -/
inductive Turn where
  | none | mine | theirs | either
deriving DecidableEq, Repr

structure Bus where
  view         : BusView
  holdsLine    : Bool
  drivesReset  : Bool
  resetLine    : Bool
  driving      : Option Frame
  received     : Option Frame
  outbox       : List Frame
  turn         : Turn
  restGapOpen  : Bool
deriving DecidableEq, Repr

/-- The two classes of contention (R67). -/
inductive RoundClass where
  | openClass | resumeClass
deriving DecidableEq, Repr

/-- What the station contends for (5.1). -/
inductive Want where
  | rollcall
  | connect (slot : SlotId)
  | resume (key : Key)
  | withdraw (key : Key)
deriving DecidableEq, Repr

/-- The entered want of the round under way, and whether its owner has ended it (R69). -/
structure Entered where
  want : Want
  gone : Bool
deriving DecidableEq, Repr

structure Arbitration where
  spent      : Bool
  abstaining : Bool
  entered    : Option Entered
deriving DecidableEq, Repr

/-! ### Connection Engine (file 05) -/

/-- The six Engine states of 6.1, and `answering`: a call was taken and its answer is going out (R82; log 8). -/
inductive Phase where
  | idle | calling | answering | sending | receiving | awaitingFinish | closing
deriving DecidableEq, Repr

inductive BusRole where
  | holder | answering
deriving DecidableEq, Repr

inductive ExchangeRole where
  | initiator | target
deriving DecidableEq, Repr

inductive Purpose where
  | connect | resume | withdraw
deriving DecidableEq, Repr

/-- A place in a segment list (R147). -/
structure Cursor where
  index  : Nat
  offset : Nat
deriving DecidableEq, Repr

/-- A DATA frame sent and not acknowledged (6.1); `endCursor` is the list place of its end (R148; log 21). -/
structure SentFrame where
  seq       : SeqNo
  pos       : Nat
  len       : Nat
  retries   : Nat
  endCursor : Cursor
deriving DecidableEq, Repr

/-- The closing frame that awaits END (R95). -/
inductive ClosingFrame where
  | finish (total : Nat)
  | disconnect (reason : DisconnectReason) (offset : Nat)
deriving DecidableEq, Repr

/-- Causes of an ABORT, with the outcome an initiator's slot takes (R97). -/
inductive AbortCause where
  | cancelled
  | link (detail : LinkDetail)
  | localFault (detail : FaultDetail)
deriving DecidableEq, Repr

structure Engine where
  phase         : Phase
  busRole       : BusRole
  role          : ExchangeRole
  partner       : StationId
  tag           : Tag
  purpose       : Purpose
  op            : Operation
  length        : Nat
  sendPos       : Nat
  nextSeq       : SeqNo
  unacked       : List SentFrame
  expectedSeq   : SeqNo
  writtenSeq    : Option SeqNo
  gapReported   : Bool
  ackDue        : Bool
  tenureCount   : Nat
  point         : Option DisconnectReason
  closing       : Option ClosingFrame
  closeRetries  : Nat
  endSent       : Bool
  answerTimer   : Timer
  ackTimer      : Timer
  silenceTimer  : Timer
  closeTimer    : Timer
  wantGone      : Bool
  abortDue      : Option AbortCause
deriving DecidableEq, Repr

/-! ### Exchange Scheduler (file 01) -/

inductive SlotState where
  | free | loading | armed | queued | selected | active | disconnected | finished
deriving DecidableEq, Repr

inductive LocalForm where
  | direct | list
deriving DecidableEq, Repr

/-- The standing part of a slot (9.2). -/
structure Standing where
  line          : TriggerLine
  repeatCount   : Nat
  repetitions   : Nat
  missed        : Nat
  stopRequested : Bool
  postingGen    : Generation
  reloadOffset  : Nat
  reloadLocal   : Nat
  reloadLength  : Nat
deriving DecidableEq, Repr

/-- A slot of the Exchange Table (2.2). -/
structure Slot where
  state           : SlotState
  gen             : Generation
  op              : Operation
  peer            : StationId
  window          : WindowId
  offset          : Nat
  length          : Nat
  form            : LocalForm
  localAddr       : Nat
  segments        : Nat
  userWord        : Word
  progress        : Nat
  cursor          : Cursor
  standing        : Option Standing
  callOut         : Bool
  noAnswers       : Nat
  busyRefusals    : Nat
  collisions      : Nat
  cancelRequested : Bool
  deadline        : Timer
  outcome         : Option ExchangeOutcome
  moreToCome      : Bool
deriving DecidableEq, Repr

structure Scheduler where
  slots    : Vector Slot 16
  ready    : List SlotId
  finished : List SlotId
deriving DecidableEq, Repr

/-! ### Service Unit (file 02) -/

inductive HoldState where
  | ready | holding | held
deriving DecidableEq, Repr

structure Window where
  enabled  : Bool
  base     : Nat
  size     : Nat
  readSet  : BitVec 16
  writeSet : BitVec 16
  announce : Bool
  hold     : HoldState
deriving DecidableEq, Repr

inductive EntryState where
  | connected | parked | ready | resuming | withdrawDue | withdrawing
deriving DecidableEq, Repr

/-- A service entry (3.3). -/
structure Entry where
  key            : Key
  op             : Operation
  window         : WindowId
  offset         : Nat
  length         : Nat
  progress       : Nat
  state          : EntryState
  parkTimer      : Timer
  noAnswers      : Nat
  reservation    : Bool
  withdrawReason : Option WithdrawReason
  stamp          : Option Nat
deriving DecidableEq, Repr

structure Service where
  windows : Vector Window 8
  entries : List Entry
  queue   : List Key
deriving DecidableEq, Repr

/-! ### Note Queue (file 07) and Trigger Unit (file 08) -/

/-- A stored note (8.1). -/
inductive Note where
  | message (sender : StationId) (payload : List Byte)
  | announce (sender : StationId) (window : WindowId) (offset length : Nat)
deriving DecidableEq, Repr

structure NoteQueue where
  stored   : List Note
  reserved : Bool
  copying  : Bool
deriving DecidableEq, Repr

structure Triggers where
  levels : BitVec 4
deriving DecidableEq, Repr

/-! ### Local Port and its five requesters (file 09), completion writer (file 11) -/

inductive Requester where
  | mover | walker | writer | copier | loader
deriving DecidableEq, Repr

/-- One read or write of 1 to 64 bytes inside an aligned 64-byte block (R141); a write carries its bytes. -/
inductive Transaction where
  | read (addr len : Nat)
  | write (addr : Nat) (bytes : List Byte)
deriving DecidableEq, Repr

/-- How the granted transaction stands: its result awaited, its result to be discarded (R143, R151), or just ended and its
requester being told (R142). -/
inductive GrantState where
  | running | discarded | ended
deriving DecidableEq, Repr

/-- The transaction that holds the port. -/
structure Granted where
  who   : Requester
  txn   : Transaction
  state : GrantState
deriving DecidableEq, Repr

structure Port where
  current : Option Granted
  waiting : List (Requester × Transaction)
  orphans : List Transaction
deriving DecidableEq, Repr

/-- What the loader reads (R144). -/
inductive LoadKind where
  | descriptor (slot : SlotId)
  | config
deriving DecidableEq, Repr

/-- A load in progress; `stopping` when it ends with its present transaction (R143, R4). -/
structure Load where
  kind     : LoadKind
  addr     : Nat
  bytes    : List Byte
  stopping : Bool
deriving DecidableEq, Repr

/-- The payload buffer of a sending data mover (R145); `discard` when a stop reached it while it was being read. -/
structure PayloadBuffer where
  pos     : Nat
  len     : Nat
  bytes   : List Byte
  discard : Bool
deriving DecidableEq, Repr

/-- A payload held until its store ends (R146). -/
structure HeldPayload where
  seq     : SeqNo
  pos     : Nat
  payload : List Byte
  done    : Nat
deriving DecidableEq, Repr

/-- A segment entry as fetched: index, address, length (R147). -/
structure Segment where
  index : Nat
  addr  : Nat
  len   : Nat
deriving DecidableEq, Repr

/-- The segment walker's fetch under way: index and the bytes read so far. -/
structure Fetch where
  index : Nat
  bytes : List Byte
deriving DecidableEq, Repr

/-- Data mover and segment walker (10.3, 10.4). -/
structure Mover where
  buffer  : Option PayloadBuffer
  stores  : List HeldPayload
  working : Cursor
  cache   : Option Segment
  fetch   : Option Fetch
deriving DecidableEq, Repr

inductive WriterState where
  | running | stalled | suspended
deriving DecidableEq, Repr

/-- A completion record in progress: its slot, its more-to-come flag, its 32 bytes, and how many are written. -/
structure Record where
  slot  : SlotId
  more  : Bool
  bytes : List Byte
  done  : Nat
deriving DecidableEq, Repr

structure Writer where
  state  : WriterState
  record : Option Record
deriving DecidableEq, Repr

/-- A note copy-out in progress (R126). -/
structure CopyOut where
  addr  : Nat
  bytes : List Byte
  done  : Nat
deriving DecidableEq, Repr

/-! ### Host Interface (file 11) -/

inductive ResultCode where
  | ok | notOnline | notOffline | badArgument | tableFull | unknownTag | noNote | descriptorInvalid
  | configInvalid | localFault
deriving DecidableEq, Repr

/-- The eleven events (12.1). -/
inductive Event where
  | completion | noteArrived | windowHeld | serviceDropped | peerSilent | stateChanged | collision
  | standingOverrun | ringFault | busResetSeen | commandDone
deriving DecidableEq, Repr

structure CommandResult where
  code    : ResultCode
  command : Byte
  detail  : BitVec 16
deriving DecidableEq, Repr

structure HostInterface where
  argument     : Word
  result       : CommandResult
  busy         : Bool
  lost         : Bool
  event        : BitVec 11
  enable       : BitVec 11
  producer     : Nat
  consumer     : Nat
  faultAddress : Word
deriving DecidableEq, Repr

/-! ### The station -/

/-- The whole state of one station; `pending` is the model's queue of commands (log 1). -/
structure State where
  station  : Station
  bus      : Bus
  arb      : Arbitration
  engine   : Engine
  sched    : Scheduler
  service  : Service
  notes    : NoteQueue
  triggers : Triggers
  port     : Port
  loader   : Option Load
  mover    : Mover
  writer   : Writer
  copier   : Option CopyOut
  host     : HostInterface
  mem      : List Host.Cell
  pending  : List Instr
deriving DecidableEq, Repr

/-! ### Starting values -/

def Cursor.start : Cursor := ⟨0, 0⟩

/-- A peer nothing is known of (R164). -/
def Peer.unknown : Peer := ⟨.unknown, 0⟩

/-- The values a missing configuration reads as; no rule uses them while none is in force (log 30). -/
def Settings.blank : Settings :=
  { id := 0, serial := 0, answerTime := 0, ackTime := 0, resumeDeadline := 0, parkLimit := 0, tenureLimit := 0,
    ringSize := 0, ringBase := 0, noteSenders := 0 }

/-- A FREE slot that keeps generation `g` (R27); the other fields blank (log 30). -/
def Slot.blank (g : Generation) : Slot :=
  { state := .free, gen := g, op := .read, peer := 0, window := 0, offset := 0, length := 0, form := .direct,
    localAddr := 0, segments := 0, userWord := 0, progress := 0, cursor := Cursor.start, standing := none,
    callOut := false, noAnswers := 0, busyRefusals := 0, collisions := 0, cancelRequested := false,
    deadline := none, outcome := none, moreToCome := false }

/-- A disabled window (R28). -/
def Window.disabled : Window :=
  { enabled := false, base := 0, size := 0, readSet := 0, writeSet := 0, announce := false, hold := .ready }

/-- The Engine in IDLE with its context cleared (6.1, R100). -/
def Engine.idle : Engine :=
  { phase := .idle, busRole := .answering, role := .initiator, partner := 0, tag := ⟨0, 0⟩, purpose := .connect,
    op := .read, length := 0, sendPos := 0, nextSeq := 0, unacked := [], expectedSeq := 0, writtenSeq := none,
    gapReported := false, ackDue := false, tenureCount := 0, point := none, closing := none, closeRetries := 0,
    endSent := false, answerTimer := none, ackTimer := none, silenceTimer := none, closeTimer := none,
    wantGone := false, abortDue := none }

/-- The data mover and the walker with no work (R151). -/
def Mover.idle : Mover :=
  { buffer := none, stores := [], working := Cursor.start, cache := none, fetch := none }

def Arbitration.clear : Arbitration := ⟨false, false, none⟩

def NoteQueue.empty : NoteQueue := ⟨[], false, false⟩

def Service.empty : Service := ⟨Vector.replicate 8 Window.disabled, [], []⟩

def Station.offline : Station :=
  { state := .offline, cause := .none, settings := none, rollcallDue := false, rollcallTimer := none,
    collisionRun := 0, peers := Vector.replicate 16 Peer.unknown }

def HostInterface.powerOn : HostInterface :=
  { argument := 0, result := ⟨.ok, 0, 0⟩, busy := false, lost := false, event := 0, enable := 0, producer := 0,
    consumer := 0, faultAddress := 0 }

/-- The Bus Interface after power-on or SOFT_RESET (R63); `drives`: a reset pulse of this station still runs. -/
def Bus.afterReset (resetLine drives : Bool) : Bus :=
  { view := if resetLine then .reset else .held, holdsLine := false, drivesReset := drives, resetLine := resetLine,
    driving := none, received := none, outbox := [], turn := .none, restGapOpen := false }

/-- The station after power-on, with the trigger lines and the reset line at the levels given (R162, R130, R63). -/
def State.atPowerOn (levels : BitVec 4) (resetLine : Bool) : State :=
  { station := .offline, bus := .afterReset resetLine false, arb := .clear, engine := .idle,
    sched := ⟨Vector.replicate 16 (Slot.blank 0), [], []⟩, service := .empty, notes := .empty,
    triggers := ⟨levels⟩, port := ⟨none, [], []⟩, loader := none, mover := .idle, writer := ⟨.running, none⟩,
    copier := none, host := .powerOn, mem := [], pending := [] }

/-- The machine right after reset: power-on with every line low (log 6), an empty queue. -/
def State.reset : State := State.atPowerOn 0 false

end Sys2Proof.Machine
end

