-- ==== Sys2Proof/Machine/Frame.lean ====
section
/-! DEFINITION. Frames on the wire: codes (13.1), header and fields (13.4), CRC (R56), well-formedness (R55). -/

namespace Sys2Proof.Machine

/-! ### Codes (13.1) -/

def Operation.code : Operation → Byte
  | .read => 1 | .write => 2 | .note => 3

def Operation.ofCode? (n : Nat) : Option Operation :=
  match n with
  | 1 => some .read | 2 => some .write | 3 => some .note | _ => none

def RefuseReason.code : RefuseReason → Byte
  | .noWindow => 1 | .denied => 2 | .range => 3 | .tableFull => 4 | .notesFull => 5 | .leaving => 6
  | .unknownTag => 7 | .offset => 8 | .badRequest => 9

def RefuseReason.ofCode? (n : Nat) : Option RefuseReason :=
  match n with
  | 1 => some .noWindow | 2 => some .denied | 3 => some .range | 4 => some .tableFull | 5 => some .notesFull
  | 6 => some .leaving | 7 => some .unknownTag | 8 => some .offset | 9 => some .badRequest | _ => none

def DisconnectReason.code : DisconnectReason → Byte
  | .tenure => 1 | .held => 2

def DisconnectReason.ofCode? (n : Nat) : Option DisconnectReason :=
  match n with
  | 1 => some .tenure | 2 => some .held | _ => none

def WithdrawReason.code : WithdrawReason → Byte
  | .parkLimit => 1 | .leaving => 2

def WithdrawReason.ofCode? (n : Nat) : Option WithdrawReason :=
  match n with
  | 1 => some .parkLimit | 2 => some .leaving | _ => none

def AbortReason.code : AbortReason → Byte
  | .cancelled => 1 | .link => 2 | .localFault => 3

def AbortReason.ofCode? (n : Nat) : Option AbortReason :=
  match n with
  | 1 => some .cancelled | 2 => some .link | 3 => some .localFault | _ => none

/-! ### Fields of a frame as a receiver takes them (R55): `none` when a value is outside its range -/

/-- An offset field: 0 to 16,777,216. -/
def offsetField? (w : Word) : Option Nat :=
  if w.toNat ≤ Config.maxLength then some w.toNat else none

/-- A total field: 1 to 16,777,216. -/
def totalField? (w : Word) : Option Nat :=
  if 1 ≤ w.toNat ∧ w.toNat ≤ Config.maxLength then some w.toNat else none

/-- A sequence field: 0 to 7. -/
def seqField? (b : Byte) : Option SeqNo :=
  if h : b.toNat < 8 then some ⟨b.toNat, h⟩ else none

/-- A payload: 1 to 256 bytes. -/
def payloadField? (p : List Byte) : Option (List Byte) :=
  if 1 ≤ p.length ∧ p.length ≤ Config.frameBytes then some p else none

/-! ### Most significant byte first (R152) -/

def be2 (w : BitVec 16) : List Byte :=
  [w.extractLsb' 8 8, w.extractLsb' 0 8]

def be4 (w : Word) : List Byte :=
  [w.extractLsb' 24 8, w.extractLsb' 16 8, w.extractLsb' 8 8, w.extractLsb' 0 8]

def ofBe2 (b1 b0 : Byte) : BitVec 16 := b1 ++ b0

def ofBe4 (b3 b2 b1 b0 : Byte) : Word := b3 ++ b2 ++ b1 ++ b0

/-- Two nibbles in one byte: bits 7:4 and bits 3:0 (13.4). -/
def nibbles (hi lo : Fin 16) : Byte := BitVec.ofNat 8 (16 * hi.val + lo.val)

def hiNibble (b : Byte) : Fin 16 := Fin.ofNat 16 (b.toNat / 16)

def loNibble (b : Byte) : Fin 16 := Fin.ofNat 16 b.toNat

/-! ### CRC (R56): generator 0x8BB7, register 0xFFFF at the start, most significant bit first, not inverted -/

def crcPolynomial : BitVec 16 := 0x8BB7#16

/-- One bit shifted into the CRC register. -/
def crcBit (r : BitVec 16) (bit : Bool) : BitVec 16 :=
  if (r.getLsbD 15 ^^ bit) = true then (r <<< 1) ^^^ crcPolynomial else r <<< 1

/-- One byte shifted in, most significant bit first. -/
def crcByte (r : BitVec 16) (b : Byte) : BitVec 16 :=
  [7, 6, 5, 4, 3, 2, 1, 0].foldl (fun r i => crcBit r (b.getLsbD i)) r

/-- The CRC of the bytes of a frame. -/
def crc (bytes : List Byte) : BitVec 16 :=
  bytes.foldl crcByte 0xFFFF#16

/-! ### The layout of 13.4 -/

def Body.kindCode : Body → Byte
  | .connect .. => 1 | .accept .. => 2 | .refuse .. => 3 | .data .. => 4 | .ack .. => 5 | .nak .. => 6
  | .finish .. => 7 | .endConnection => 8 | .resume .. => 9 | .withdraw .. => 10 | .abort .. => 11
  | .rollcall .. => 12 | .present => 13 | .disconnect .. => 14

/-- The bytes after the header, in order (13.4). -/
def Body.fields : Body → List Byte
  | .connect op w o l => op :: w :: be4 o ++ be4 l
  | .accept o => be4 (BitVec.ofNat 32 o)
  | .refuse r => [r.code]
  | .data q p => BitVec.ofNat 8 q.val :: BitVec.ofNat 8 (p.length - 1) :: p
  | .ack q => [BitVec.ofNat 8 q.val]
  | .nak q => [BitVec.ofNat 8 q.val]
  | .finish t => be4 (BitVec.ofNat 32 t)
  | .disconnect r o => r.code :: be4 (BitVec.ofNat 32 o)
  | .endConnection => []
  | .resume o => be4 (BitVec.ofNat 32 o)
  | .withdraw r => [r.code]
  | .abort r => [r.code]
  | .rollcall n => be2 n
  | .present => []

/-- Source and destination may be equal in ROLLCALL and PRESENT alone (R55). -/
def Body.isRollCall : Body → Bool
  | .rollcall _ => true
  | .present => true
  | _ => false

/-- The ranges of R55 that the types do not hold already. -/
def Body.wf : Body → Bool
  | .accept o => o ≤ Config.maxLength
  | .data _ p => 1 ≤ p.length ∧ p.length ≤ Config.frameBytes
  | .finish t => 1 ≤ t ∧ t ≤ Config.maxLength
  | .disconnect _ o => o ≤ Config.maxLength
  | .resume o => o ≤ Config.maxLength
  | _ => true

/-- A well-formed frame (R55). -/
def Frame.wf (f : Frame) : Bool :=
  f.body.wf && (f.body.isRollCall || f.head.src ≠ f.head.dst)

/-- The bytes of a frame before its CRC (13.4). -/
def Frame.content (f : Frame) : List Byte :=
  f.body.kindCode :: nibbles f.head.src f.head.dst :: nibbles f.head.slot f.head.gen :: f.body.fields

/-- A frame as it is driven, CRC last and most significant byte first (R56). -/
def Frame.encode (f : Frame) : List Byte :=
  f.content ++ be2 (crc f.content)

/-- The fields of a kind; `none` for an unassigned kind code, a wrong place of the CRC or a value outside R55. -/
def decodeBody (kind : Nat) (fields : List Byte) : Option Body :=
  match kind, fields with
  | 1, [op, w, o3, o2, o1, o0, l3, l2, l1, l0] => some (.connect op w (ofBe4 o3 o2 o1 o0) (ofBe4 l3 l2 l1 l0))
  | 2, [o3, o2, o1, o0] => (offsetField? (ofBe4 o3 o2 o1 o0)).map .accept
  | 3, [r] => (RefuseReason.ofCode? r.toNat).map .refuse
  | 4, q :: n :: p => if p.length = n.toNat + 1 then (seqField? q).map (.data · p) else none
  | 5, [q] => (seqField? q).map .ack
  | 6, [q] => (seqField? q).map .nak
  | 7, [t3, t2, t1, t0] => (totalField? (ofBe4 t3 t2 t1 t0)).map .finish
  | 8, [] => some .endConnection
  | 9, [o3, o2, o1, o0] => (offsetField? (ofBe4 o3 o2 o1 o0)).map .resume
  | 10, [r] => (WithdrawReason.ofCode? r.toNat).map .withdraw
  | 11, [r] => (AbortReason.ofCode? r.toNat).map .abort
  | 12, [n1, n0] => some (.rollcall (ofBe2 n1 n0))
  | 13, [] => some .present
  | 14, [r, o3, o2, o1, o0] =>
    (DisconnectReason.ofCode? r.toNat).bind fun r => (offsetField? (ofBe4 o3 o2 o1 o0)).map (.disconnect r ·)
  | _, _ => none

/-- The frame before the CRC, if well formed (R55). -/
def decodeContent (content : List Byte) : Option Frame :=
  match content with
  | kind :: ids :: tag :: fields =>
    (decodeBody kind.toNat fields).bind fun b =>
      let f : Frame := ⟨⟨hiNibble ids, loNibble ids, hiNibble tag, loNibble tag⟩, b⟩
      if f.wf then some f else none
  | _ => none

/-- What a receiver makes of the bytes of one frame (R55, R56): `none` when the CRC is bad or incomplete or the
frame is not well formed. -/
def Frame.decode (bytes : List Byte) : Option Frame :=
  let content := bytes.take (bytes.length - 2)
  if bytes.drop (bytes.length - 2) = be2 (crc content) then decodeContent content else none

end Sys2Proof.Machine
end

