-- ==== Sys2Proof/Machine/Layout.lean ====
section
/-! DEFINITION. The records in local memory: little-endian fields (R152), descriptor, segment entry, configuration
block, completion record, copy-out record (13.2, 13.3), and the checks of R2 and R155 on the numbers read (R174). -/

namespace Sys2Proof.Machine

/-- The number little-endian bytes hold (R152). -/
def ofLe (bytes : List Byte) : Nat :=
  bytes.foldr (fun b n => b.toNat + 256 * n) 0

/-- `width` little-endian bytes of a number (R152). -/
def leBytes : (width n : Nat) → List Byte
  | 0, _ => []
  | k + 1, n => BitVec.ofNat 8 n :: leBytes k (n / 256)

/-- The field of `width` bytes at offset `off` of a record, as a number (R174). -/
def fieldAt (bytes : List Byte) (off width : Nat) : Nat :=
  ofLe ((bytes.drop off).take width)

/-! ### Exchange descriptor (13.2) -/

/-- The named fields of a descriptor as the numbers its bytes hold. -/
structure Descriptor where
  op          : Nat
  peer        : Nat
  window      : Nat
  form        : Nat
  standing    : Bool
  line        : Nat
  repeatCount : Nat
  offset      : Nat
  length      : Nat
  localAddr   : Nat
  segments    : Nat
  userWord    : Nat
deriving DecidableEq, Repr

def parseDescriptor (b : List Byte) : Descriptor :=
  { op := fieldAt b 0 1, peer := fieldAt b 1 1, window := fieldAt b 2 1, form := fieldAt b 3 1,
    standing := fieldAt b 4 1 % 2 = 1, line := fieldAt b 5 1, repeatCount := fieldAt b 6 2, offset := fieldAt b 8 4,
    length := fieldAt b 12 4, localAddr := fieldAt b 16 4, segments := fieldAt b 20 2, userWord := fieldAt b 24 4 }

/-- The order number of the first failing check of R2, if one fails. -/
def Descriptor.failing? (own : StationId) (d : Descriptor) : Option Nat :=
  let note : Bool := d.op = 3
  if d.op = 0 ∨ d.op > 3 then some 1
  else if d.peer > 15 ∨ d.peer = own.val then some 2
  else if ¬ note ∧ d.window > 7 then some 3
  else if ¬ note ∧ d.offset ≥ Config.maxLength then some 4
  else if d.length = 0 ∨ d.length > (if note then Config.maxNote else Config.maxLength) then some 5
  else if d.form ≠ 1 ∧ d.form ≠ 2 then some 6
  else if d.form = 1 ∧ d.localAddr + d.length > Config.localTop then some 7
  else if d.form = 2 ∧ (d.segments = 0 ∨ d.segments > 256) then some 7
  else if d.standing ∧ d.line > 3 then some 8
  else none

/-! ### Station configuration block (13.2) -/

structure WindowBlock where
  enabled  : Bool
  announce : Bool
  readSet  : Nat
  writeSet : Nat
  base     : Nat
  size     : Nat
deriving DecidableEq, Repr

structure ConfigBlock where
  id             : Nat
  serial         : Nat
  answerTime     : Nat
  ackTime        : Nat
  tenureLimit    : Nat
  resumeDeadline : Nat
  parkLimit      : Nat
  ringSize       : Nat
  noteSenders    : Nat
  ringBase       : Nat
  window         : Fin 8 → WindowBlock

def parseWindow (b : List Byte) (at' : Nat) : WindowBlock :=
  { enabled := fieldAt b at' 1 % 2 = 1, announce := fieldAt b at' 1 / 2 % 2 = 1, readSet := fieldAt b (at' + 2) 2,
    writeSet := fieldAt b (at' + 4) 2, base := fieldAt b (at' + 8) 4, size := fieldAt b (at' + 12) 4 }

def parseConfig (b : List Byte) : ConfigBlock :=
  { id := fieldAt b 0 1, serial := fieldAt b 2 2, answerTime := fieldAt b 4 1, ackTime := fieldAt b 5 1,
    tenureLimit := fieldAt b 6 1, resumeDeadline := fieldAt b 8 2, parkLimit := fieldAt b 10 2,
    ringSize := fieldAt b 12 2, noteSenders := fieldAt b 14 2, ringBase := fieldAt b 16 4,
    window := fun w => parseWindow b (32 + 16 * w.val) }

/-- A window entry passes its check when it is disabled, or its size is 1 to 16,777,216 and its range does not pass
the top of the local address space (R28, R155). -/
def WindowBlock.legal (w : WindowBlock) : Bool :=
  !w.enabled || (1 ≤ w.size ∧ w.size ≤ Config.maxLength ∧ w.base + w.size ≤ Config.localTop)

def windowIds : List (Fin 8) := [0, 1, 2, 3, 4, 5, 6, 7]

def ringSizes : List Nat := [16, 32, 64, 128, 256, 512, 1024]

/-- The field index of the first failing check of R155, if one fails. -/
def ConfigBlock.failing? (c : ConfigBlock) : Option Nat :=
  if c.id > 15 then some 1
  else if c.answerTime < 4 ∨ c.answerTime > 255 then some 2
  else if c.ackTime < 4 ∨ c.ackTime > 255 then some 3
  else if c.resumeDeadline = 0 then some 4
  else if c.parkLimit = 0 then some 5
  else if c.tenureLimit = 0 then some 6
  else if c.ringSize ∉ ringSizes then some 7
  else if c.ringBase + c.ringSize * Config.recordBytes > Config.localTop then some 8
  else (windowIds.find? fun w => !(c.window w).legal).map fun w => 9 + w.val

/-- The configured values of a block that passed its checks (R155). -/
def ConfigBlock.settings (c : ConfigBlock) : Settings :=
  { id := Fin.ofNat 16 c.id, serial := BitVec.ofNat 16 c.serial, answerTime := c.answerTime, ackTime := c.ackTime,
    resumeDeadline := c.resumeDeadline, parkLimit := c.parkLimit, tenureLimit := c.tenureLimit,
    ringSize := c.ringSize, ringBase := c.ringBase, noteSenders := BitVec.ofNat 16 c.noteSenders }

/-- The Window Table entry of a window block; the hold state is READY at the load (R28). -/
def WindowBlock.entry (w : WindowBlock) : Window :=
  { enabled := w.enabled, base := w.base, size := w.size, readSet := BitVec.ofNat 16 w.readSet,
    writeSet := BitVec.ofNat 16 w.writeSet, announce := w.announce, hold := .ready }

/-! ### Segment entry (13.2) -/

/-- Address and length of a segment entry; the length field holds the length minus 1. -/
def parseSegment (index : Nat) (b : List Byte) : Segment :=
  { index := index, addr := fieldAt b 0 4, len := fieldAt b 4 2 + 1 }

/-! ### Completion record and copy-out record (13.3, R175) -/

def ExchangeOutcome.code : ExchangeOutcome → Nat
  | .done => 0 | .refused _ => 1 | .noAnswer => 2 | .peerSilent => 3 | .linkError _ => 4 | .resumeTimeout => 5
  | .withdrawn _ => 6 | .cancelled => 7 | .busReset => 8 | .localFault _ => 9 | .targetFault => 10 | .left => 11

/-- The detail code of an outcome (13.1); 0 where its row shows none. -/
def ExchangeOutcome.detail : ExchangeOutcome → Nat
  | .refused r => r.code.toNat
  | .linkError .retries => 1
  | .linkError .silence => 2
  | .linkError .offset => 3
  | .withdrawn r => r.code.toNat
  | .localFault .busError => 1
  | .localFault .segmentShort => 2
  | _ => 0

/-- The 32 bytes of the completion record of slot `i` (13.3, R22, R135). -/
def recordBytesOf (i : SlotId) (x : Slot) : List Byte :=
  let o := x.outcome.getD .done
  leBytes 4 x.userWord.toNat ++ leBytes 4 x.progress
    ++ [BitVec.ofNat 8 i.val, BitVec.ofNat 8 x.gen.val, BitVec.ofNat 8 o.code, BitVec.ofNat 8 o.detail,
        BitVec.ofNat 8 x.peer.val, x.op.code]
    ++ leBytes 2 (x.standing.elim 0 (·.repetitions))
    ++ [BitVec.ofNat 8 (x.standing.elim 0 (·.missed)), if x.moreToCome then 1 else 0]
    ++ List.replicate 14 0

/-- The 48 bytes of a copy-out record (13.3, R126). -/
def copyOutBytesOf : Note → List Byte
  | .message sender payload =>
    [1, BitVec.ofNat 8 sender.val, 0, 0] ++ leBytes 4 payload.length ++ leBytes 4 0 ++ leBytes 4 0
      ++ payload ++ List.replicate (Config.maxNote - payload.length) 0
  | .announce sender window offset length =>
    [2, BitVec.ofNat 8 sender.val, BitVec.ofNat 8 window.val, 0] ++ leBytes 4 length ++ leBytes 4 offset
      ++ leBytes 4 0 ++ List.replicate Config.maxNote 0

end Sys2Proof.Machine
end

