-- ==== Sys2Proof/Machine/Flags.lean ====
section
/-! DEFINITION. Event flags, the interrupt line, and the registers as the host reads them (12.1, R165, R168, R169). -/

namespace Sys2Proof.Machine

/-! ### Events -/

/-- The bit of an event in EVENT and EVENT_ENABLE (12.1). -/
def Event.bit : Event → Nat
  | .completion => 0 | .noteArrived => 1 | .windowHeld => 2 | .serviceDropped => 3 | .peerSilent => 4
  | .stateChanged => 5 | .collision => 6 | .standingOverrun => 7 | .ringFault => 8 | .busResetSeen => 9
  | .commandDone => 10

def Event.mask (e : Event) : BitVec 11 := 1#11 <<< e.bit

/-- Raise an event: its flag is set, whether or not it was set before (R168). -/
def State.raise (e : Event) (s : State) : State :=
  { s with host := { s.host with event := s.host.event ||| e.mask } }

/-- Raise an event if a condition holds. -/
def State.raiseIf (c : Bool) (e : Event) (s : State) : State :=
  if c then s.raise e else s

/-- Whether an event flag is set. -/
def State.flag (s : State) (e : Event) : Bool := s.host.event.getLsbD e.bit

/-- The interrupt line: at least one event both set and enabled (R169). -/
def State.irq (s : State) : Bool := s.host.event &&& s.host.enable ≠ 0

/-! ### Codes of the register window (12.1) -/

def ResultCode.code : ResultCode → Nat
  | .ok => 0 | .notOnline => 1 | .notOffline => 2 | .badArgument => 3 | .tableFull => 4 | .unknownTag => 5
  | .noNote => 6 | .descriptorInvalid => 7 | .configInvalid => 8 | .localFault => 9

def StationState.code : StationState → Nat
  | .offline => 0 | .configuring => 1 | .joining => 2 | .online => 3 | .leaving => 4

def OfflineCause.code : OfflineCause → Nat
  | .none => 0 | .idConflict => 1 | .drained => 2

def WriterState.code : WriterState → Nat
  | .running => 0 | .stalled => 1 | .suspended => 2

/-- RESULT: bits 7:0 result code, bits 15:8 command code, bits 31:16 detail. -/
def CommandResult.word (r : CommandResult) : Word :=
  r.detail ++ r.command ++ BitVec.ofNat 8 r.code.code

/-- STATUS: bit 0 BUSY, bit 1 command lost, bits 4:2 station state, bits 6:5 offline cause, bits 8:7 writer state,
bits 15:12 station ID, which reads 0 while no configured values are in force (R165). -/
def State.status (s : State) : Word :=
  BitVec.ofNat 32 (s.host.busy.toNat + 2 * s.host.lost.toNat + 4 * s.station.state.code + 32 * s.station.cause.code
    + 128 * s.writer.state.code + 4096 * (s.station.settings.elim 0 (·.id.val)))

/-- A read of the window at an offset (R165); it changes nothing. `none`: no register lies there. -/
def State.readRegister (s : State) (offset : Nat) : Option Word :=
  match offset with
  | 0x00 => some 0
  | 0x04 => some s.host.argument
  | 0x08 => some s.host.result.word
  | 0x0C => some s.status
  | 0x10 => some (s.host.event.setWidth 32)
  | 0x14 => some (s.host.enable.setWidth 32)
  | 0x18 => some (BitVec.ofNat 32 s.host.producer)
  | 0x1C => some (BitVec.ofNat 32 s.host.consumer)
  | 0x20 => some (BitVec.ofNat 32 (s.station.settings.elim 0 (·.ringBase)))
  | 0x24 => some (BitVec.ofNat 32 (s.station.settings.elim 0 (·.ringSize)))
  | 0x28 => some s.host.faultAddress
  | _ => none

end Sys2Proof.Machine
end

