-- ==== Sys2Proof/Machine/Operands.lean ====
section
/-! DEFINITION. Command codes and the forms of the ARGUMENT register (12.1). -/

namespace Sys2Proof.Machine

/-! ### Command codes (12.1) -/

def codeJoin : Byte := 0x01
def codeLeave : Byte := 0x02
def codeSoftReset : Byte := 0x03
def codePeerReset : Byte := 0x04
def codePost : Byte := 0x05
def codeCancel : Byte := 0x06
def codeStopStanding : Byte := 0x07
def codeHold : Byte := 0x08
def codeRelease : Byte := 0x09
def codeTakeNote : Byte := 0x0A
def codeBusReset : Byte := 0x0B
def codeRingRestart : Byte := 0x0C

/-! ### Forms of ARGUMENT -/

/-- The address form: JOIN, POST, TAKE_NOTE. -/
def argAddress (a : Word) : Nat := a.toNat

/-- Bits 7:0: a slot, a window index or a station ID before its range is checked. -/
def argLow (a : Word) : Nat := a.toNat % 256

/-- Bits 11:8: the generation of a tag. -/
def argGeneration (a : Word) : Generation := Fin.ofNat 16 (a.toNat / 256)

/-- The tag form of CANCEL and STOP_STANDING: `none` when the slot field is above 15 (R6). -/
def argTag? (a : Word) : Option Tag :=
  if h : argLow a < 16 then some ⟨⟨argLow a, h⟩, argGeneration a⟩ else none

/-- The window form of HOLD and RELEASE: `none` above 7 (R40). -/
def argWindow? (a : Word) : Option WindowId :=
  if h : argLow a < 8 then some ⟨argLow a, h⟩ else none

/-- The station form of PEER_RESET: `none` above 15 (R164). -/
def argStation? (a : Word) : Option StationId :=
  if h : argLow a < 16 then some ⟨argLow a, h⟩ else none

/-- The detail of OK for POST: the tag in the form of the CANCEL argument (12.1). -/
def tagDetail (t : Tag) : Nat := t.slot.val + 256 * t.gen.val

end Sys2Proof.Machine
end

