-- ==== Sys2Proof/Machine/Ops.lean ====
section
/-! DEFINITION. Shared operations: local memory, registers of the tables, results of commands, settings, releasing
the hold line, driving frames in turn (R53), and telling that a want is gone (R69, R77). -/

namespace Sys2Proof.Machine

/-! ### Local memory (log 5) -/

/-- The canonical form: addresses strictly rising. -/
def Memory.wf (m : List Host.Cell) : Bool := decide ((m.map Prod.fst).Pairwise (· < ·))

/-- A byte of local memory as this controller left it; `none`: it has not written that byte. -/
def Memory.read (m : List Host.Cell) (a : Nat) : Option Byte :=
  match m with
  | [] => none
  | (b, v) :: rest => if a = b then some v else Memory.read rest a

/-- Write one byte, keeping the canonical form. -/
def Memory.writeByte : List Host.Cell → Nat → Byte → List Host.Cell
  | [], a, v => [(a, v)]
  | (b, w) :: rest, a, v =>
    if a < b then (a, v) :: (b, w) :: rest
    else if a = b then (a, v) :: rest
    else (b, w) :: Memory.writeByte rest a v

/-- Write bytes at consecutive addresses. -/
def Memory.write (m : List Host.Cell) (a : Nat) : List Byte → List Host.Cell
  | [] => m
  | v :: rest => Memory.write (Memory.writeByte m a v) (a + 1) rest

/-! ### Configured values and spans -/

/-- The configured values in force. -/
def State.settings (s : State) : Settings := s.station.settings.getD Settings.blank

/-- This station's ID (R155). -/
def State.ownId (s : State) : StationId := s.settings.id

/-- The silence limit, 4 × ack time (R88). -/
def State.silenceLimit (s : State) : Nat := Config.silenceFactor * s.settings.ackTime

/-- The resume deadline in µs (R103). -/
def State.resumeSpan (s : State) : Nat := Config.timeUnit * s.settings.resumeDeadline

/-- The park limit in µs (R45). -/
def State.parkSpan (s : State) : Nat := Config.timeUnit * s.settings.parkLimit

/-! ### Tables -/

def State.slot (s : State) (i : SlotId) : Slot := s.sched.slots[i]

def State.setSlot (s : State) (i : SlotId) (x : Slot) : State :=
  { s with sched := { s.sched with slots := s.sched.slots.set i x } }

def State.window (s : State) (w : WindowId) : Window := s.service.windows[w]

def State.setHold (s : State) (w : WindowId) (h : HoldState) : State :=
  { s with service := { s.service with windows := s.service.windows.set w { s.window w with hold := h } } }

def State.peer (s : State) (p : StationId) : Peer := s.station.peers[p]

def State.setPeer (s : State) (p : StationId) (x : Peer) : State :=
  { s with station := { s.station with peers := s.station.peers.set p x } }

/-- All slots in ascending order. -/
def slotIds : List SlotId := [0, 1, 2, 3, 4, 5, 6, 7, 8, 9, 10, 11, 12, 13, 14, 15]

/-- The SELECTED slot, if there is one (R8). -/
def State.selected? (s : State) : Option SlotId := slotIds.find? fun i => (s.slot i).state = .selected

/-- The lowest-numbered FREE slot (R1). -/
def State.freeSlot? (s : State) : Option SlotId := slotIds.find? fun i => (s.slot i).state = .free

def State.entry? (s : State) (k : Key) : Option Entry := s.service.entries.find? fun e => e.key = k

/-- The taken entry: RESUMING or WITHDRAWING (R65). -/
def State.taken? (s : State) : Option Entry :=
  s.service.entries.find? fun e => e.state = .resuming ∨ e.state = .withdrawing

/-- Change the entry with a key, if there is one. -/
def State.updateEntry (s : State) (k : Key) (f : Entry → Entry) : State :=
  { s with service := { s.service with
      entries := s.service.entries.map fun e => if e.key = k then f e else e } }

/-! ### Ends of commands (R166, R167) -/

/-- Write RESULT, make the port READY and raise COMMAND_DONE (R167). -/
def State.finish (s : State) (command : Byte) (code : ResultCode) (detail : Nat := 0) : State :=
  { s with host := { s.host with result := ⟨code, command, BitVec.ofNat 16 detail⟩, busy := false } }.raise .commandDone

/-- Offer a command to the port: lost while BUSY, else taken with the argument copied (R166). -/
def State.takeCommand (s : State) (act : Word → State → State) : State :=
  if s.host.busy then { s with host := { s.host with lost := true } }
  else act s.host.argument { s with host := { s.host with lost := false } }

/-! ### The hold line and the data path -/

/-- Release the hold line as holder; the release abstention is set (R51, R72). -/
def State.releaseLine (s : State) : State :=
  { s with bus := { s.bus with holdsLine := false }, arb := { s.arb with abstaining := true } }

/-- The view enters FREE, and a rest gap is measured from here (R50, R52). -/
def State.enterFree (s : State) : State :=
  { s with bus := { s.bus with view := .free, restGapOpen := true } }

/-- Whether this station may begin a frame now: nothing being driven, the turn rule gives it the data path (R53),
and the view is HELD, or FREE for an answering party that is still closing (R57, R95). -/
def State.mayDrive (s : State) : Bool :=
  s.bus.driving.isNone && (s.bus.turn = .mine || s.bus.turn = .either) && (s.bus.view = .held || s.bus.view = .free)

/-- Begin to drive a frame. -/
def State.drive (s : State) (f : Frame) : State :=
  { s with bus := { s.bus with driving := some f } }

/-- A frame of the open connection: this station to the partner, with the connection's tag (R54). -/
def State.connFrame (s : State) (b : Body) : Frame :=
  ⟨⟨s.ownId, s.engine.partner, s.engine.tag.slot, s.engine.tag.gen⟩, b⟩

/-- Whether a frame belongs to the open connection, and not to one that has ended meanwhile. -/
def State.ownsFrame (s : State) (f : Frame) : Bool := s.engine.phase ≠ .idle && f.head = (s.connFrame f.body).head

/-- PRESENT and ROLLCALL belong to Station Control, every other frame to the Connection Engine (6.1). -/
def Frame.ofStationControl (f : Frame) : Bool := f.body.isRollCall

/-- The slot of the initiator's exchange. -/
def State.ownSlot (s : State) : Slot := s.slot s.engine.tag.slot

/-- The cause of an ABORT that is due: one that has been settled, or the cancel of the ACTIVE slot (R20, R97). A link cause or
a local fault that is settled while the cancel is pending goes first (log 47). -/
def State.abortCause? (s : State) : Option AbortCause :=
  match s.engine.abortDue with
  | some c => some c
  | none =>
    if s.engine.role = .initiator ∧ s.ownSlot.state = .active ∧ s.ownSlot.cancelRequested
        ∧ (s.engine.phase = .sending ∨ s.engine.phase = .receiving ∨ s.engine.phase = .awaitingFinish) then some .cancelled
    else none

def ClosingFrame.body : ClosingFrame → Body
  | .finish t => .finish t
  | .disconnect r o => .disconnect r o

/-- The closing frame that the target has decided on begins (R92, R95): at this station's turn, when no ACK is owed
(R85) and no ABORT is due (R97). -/
def State.beginClosing (s : State) : State :=
  match s.engine.closing with
  | some c =>
    if s.engine.phase ≠ .closing ∧ s.engine.ackDue = false ∧ s.mayDrive = true ∧ s.abortCause? = none then
      s.drive (s.connFrame c.body)
    else s
  | none => s

/-- At this station's turn the oldest waiting frame begins, or the closing frame that is due (R53, log 13). While an ABORT is
due no other frame of the connection begins (R20, R97). -/
def State.pump (s : State) : State :=
  match s.bus.outbox with
  | f :: rest =>
    if s.mayDrive = true ∧ (f.ofStationControl = true ∨ s.abortCause? = none) then
      { s with bus := { s.bus with driving := some f, outbox := rest } }
    else s
  | [] => s.beginClosing

/-- Hand a frame to the Bus Interface: it goes out at this station's next turn. -/
def State.send (s : State) (f : Frame) : State :=
  { s with bus := { s.bus with outbox := s.bus.outbox ++ [f] } }.pump

def State.sendBody (s : State) (b : Body) : State := s.send (s.connFrame b)

/-- The frames of the connection that wait are not sent. -/
def State.dropWaiting (s : State) : State :=
  { s with bus := { s.bus with outbox := s.bus.outbox.filter Frame.ofStationControl } }

/-! ### The port's part of an ended connection (R151) -/

def Requester.ofConnection (r : Requester) : Bool := r = .mover || r = .walker

/-- A transaction whose result is awaited is not awaited any more (R143, R151). -/
def Granted.discard (g : Granted) : Granted := if g.state = .running then { g with state := .discarded } else g

/-- The data mover and the walker give up: their waiting requests are withdrawn, and the result of a transaction of
theirs that is in progress will be discarded (R151). -/
def Port.giveUp (p : Port) : Port :=
  { p with
    current := p.current.map fun g => if g.who.ofConnection then g.discard else g
    waiting := p.waiting.filter fun r => !r.1.ofConnection }

/-- The Bus Interface of a station that is party to no connection any more: it stops a frame of the connection that it is
driving and sends none that waits (R53). A frame stopped in this way is no collision, and the partner has the first right
to the data path, as after any frame (log 40). -/
def Bus.leave (b : Bus) : Bus :=
  { b with
    driving := b.driving.filter Frame.ofStationControl
    outbox := b.outbox.filter Frame.ofStationControl
    turn := if b.driving.any fun f => !f.ofStationControl then .theirs else b.turn }

/-- The Engine goes IDLE: context cleared, timers stopped, mover and walker idle, its frames gone. A NOTE reservation that
has not become a note is freed (R122). -/
def State.engineIdle (s : State) : State :=
  { s with
    engine := .idle
    mover := .idle
    port := s.port.giveUp
    notes := { s.notes with reserved := false }
    bus := s.bus.leave }

/-- This station's side of the connection ends: a holder releases, a frame of the connection that is being driven stops, and
the Engine goes IDLE (R53, R96, R97, R98). -/
def State.leaveConnection (s : State) : State :=
  (if s.engine.busRole = .holder then s.releaseLine else s).engineIdle

/-! ### A want that is gone (R69, R77) -/

/-- Mark the entered want as gone if it is `w` (R69). -/
def State.markGone (s : State) (w : Want) : State :=
  match s.arb.entered with
  | some e => if e.want = w then { s with arb := { s.arb with entered := some { e with gone := true } } } else s
  | none => s

/-- The Engine is told that the want it is calling for is gone (R77): a call frame under way is completed first,
otherwise the holder releases at once. -/
def State.callGone (s : State) : State :=
  if s.bus.driving.isSome then { s with engine := { s.engine with wantGone := true, answerTimer := none, closeTimer := none } }
  else s.leaveConnection

/-- The SELECTED slot was ended before its CONNECT went out good (R69, R77). -/
def State.slotWantGone (s : State) (i : SlotId) : State :=
  let s := s.markGone (.connect i)
  if s.engine.phase = .calling ∧ s.engine.purpose = .connect ∧ s.engine.tag.slot = i then s.callGone else s

/-- The key of the entry the Engine serves. -/
def Engine.key (e : Engine) : Key := ⟨e.partner, e.tag⟩

/-- A taken entry was dropped or retired (R69, R77). -/
def State.entryWantGone (s : State) (k : Key) : State :=
  let s := (s.markGone (.resume k)).markGone (.withdraw k)
  if s.engine.phase = .calling ∧ s.engine.purpose ≠ .connect ∧ s.engine.key = k then s.callGone else s

end Sys2Proof.Machine
end

