-- ==== Sys2Proof/Machine/Scheduler.lean ====
section
/-! DEFINITION. The Exchange Scheduler: how a slot enters and leaves each state (file 01), and standing parts (file 08).
Each operation acts only on a slot in a state that the rule names, so the ready list holds exactly the QUEUED slots
and the finished list exactly the FINISHED ones (R7, R22). -/

namespace Sys2Proof.Machine

def State.modSlot (s : State) (i : SlotId) (f : Slot → Slot) : State := s.setSlot i (f (s.slot i))

/-- A live exchange: one that a tag can match (R6). -/
def SlotState.live : SlotState → Bool
  | .armed | .queued | .selected | .active | .disconnected => true
  | .free | .loading | .finished => false

/-- Whether a record of this slot with this outcome says that more is to come (R22). -/
def Slot.more (x : Slot) (o : ExchangeOutcome) : Bool :=
  match x.standing with
  | some st => o = .done && !st.stopRequested && (st.repeatCount = 0 || st.repetitions < st.repeatCount)
  | none => false

/-- A live or LOADING slot enters FINISHED (R22): deadline stopped, outcome and more-to-come fixed, out of the ready
list, at the tail of the finished list. -/
def State.finishSlot (s : State) (i : SlotId) (o : ExchangeOutcome) : State :=
  let x := s.slot i
  if x.state.live ∨ x.state = .loading then
    let s := s.setSlot i { x with state := .finished, outcome := some o, moreToCome := x.more o, deadline := none }
    { s with sched := { s.sched with ready := s.sched.ready.erase i, finished := s.sched.finished ++ [i] } }
  else s

/-- A LOADING, ARMED or SELECTED slot enters QUEUED at the tail of the ready list (R7). -/
def State.queueSlot (s : State) (i : SlotId) : State :=
  let x := s.slot i
  if x.state = .loading ∨ x.state = .armed ∨ x.state = .selected then
    let s := s.setSlot i { x with state := .queued, callOut := false }
    { s with sched := { s.sched with ready := s.sched.ready ++ [i] } }
  else s

/-- A repetition starts (R5). -/
def Slot.startRepetition (x : Slot) : Slot :=
  { x with gen := x.gen + 1, progress := 0, cursor := Cursor.start, noAnswers := 0, busyRefusals := 0, collisions := 0,
           cancelRequested := false, callOut := false }

/-- The reload of R131, on every entry into ARMED. -/
def Slot.reload (x : Slot) : Slot :=
  match x.standing with
  | some st => { x with offset := st.reloadOffset, localAddr := st.reloadLocal, length := st.reloadLength }
  | none => x

/-- The slot that a tag names among live exchanges (R6). -/
def State.matchTag (s : State) (t : Tag) : Bool :=
  let x := s.slot t.slot
  x.state.live && (t.gen = x.gen || x.standing.elim false fun st => t.gen = st.postingGen)

/-- A SELECTED or ACTIVE slot enters DISCONNECTED, its deadline at the full value (R14, R16, R103). -/
def State.disconnectSlot (s : State) (i : SlotId) : State :=
  let x := s.slot i
  if x.state = .selected ∨ x.state = .active then
    s.setSlot i { x with state := .disconnected, deadline := some s.resumeSpan }
  else s

/-- End a set of slots in ascending slot order. -/
def State.finishWhere (s : State) (p : Slot → Bool) (o : ExchangeOutcome) : State :=
  slotIds.foldl (fun s i => if p (s.slot i) then s.finishSlot i o else s) s

/-! ### Answers to a call (2.5, R19, R26) -/

/-- Requeue a SELECTED slot, or end it LEFT while LEAVING (R26). -/
def State.requeueOrLeave (s : State) (i : SlotId) : State :=
  if s.station.state = .leaving then s.finishSlot i .left else s.queueSlot i

/-- A SELECTED slot's CONNECT was refused (R11, R12, R19). -/
def State.callRefused (s : State) (i : SlotId) (r : RefuseReason) : State :=
  let x := s.slot i
  if x.state ≠ .selected then s
  else if x.cancelRequested then s.finishSlot i .cancelled
  else if r = .tableFull ∨ r = .notesFull then
    let s := s.setSlot i { x with busyRefusals := x.busyRefusals + 1 }
    if x.busyRefusals + 1 ≥ Config.maxBusyRefusals then s.finishSlot i (.refused r) else s.requeueOrLeave i
  else s.finishSlot i (.refused r)

/-- A SELECTED slot's CONNECT was not answered (R13, R19). -/
def State.callUnanswered (s : State) (i : SlotId) : State :=
  let x := s.slot i
  if x.state ≠ .selected then s
  else if x.cancelRequested then s.finishSlot i .cancelled
  else
    let s := s.setSlot i { x with noAnswers := x.noAnswers + 1 }
    if x.noAnswers + 1 ≥ Config.maxNoAnswers then s.finishSlot i .noAnswer else s.requeueOrLeave i

/-- A SELECTED slot's CONNECT was lost to a collision (R9). -/
def State.callCollided (s : State) (i : SlotId) : State :=
  let x := s.slot i
  if x.state ≠ .selected then s
  else if x.collisions + 1 ≥ Config.maxCollisions then (s.setSlot i { x with collisions := 0 }).queueSlot i
  else s.setSlot i { x with collisions := x.collisions + 1 }

/-- A SELECTED slot's CONNECT was answered DISCONNECT(HELD) (R14, R19). -/
def State.callHeld (s : State) (i : SlotId) : State :=
  let x := s.slot i
  if x.state ≠ .selected then s
  else if x.cancelRequested then s.finishSlot i .cancelled
  else s.disconnectSlot i

/-- A SELECTED slot's CONNECT was accepted, or a DISCONNECTED slot's RESUME accepted (R10, R17). -/
def State.activateSlot (s : State) (i : SlotId) : State :=
  let x := s.slot i
  if x.state = .selected ∨ x.state = .disconnected then s.setSlot i { x with state := .active, deadline := none }
  else s

/-! ### CANCEL and STOP_STANDING (2.8, 9.5) -/

/-- A cancel that waits for the connection (R18). A standing exchange is asked to stop as well, so that a repetition
whose FINISH comes first ends DONE and final (R138, 2.8; log 42). -/
def Slot.requestCancel (x : Slot) : Slot :=
  { x with cancelRequested := true, standing := x.standing.map fun st => { st with stopRequested := true } }

/-- CANCEL of a live exchange, by its state (R18). -/
def State.cancelSlot (s : State) (i : SlotId) : State :=
  let x := s.slot i
  match x.state with
  | .queued | .disconnected | .armed => s.finishSlot i .cancelled
  | .selected =>
    if x.callOut then s.setSlot i x.requestCancel else (s.slotWantGone i).finishSlot i .cancelled
  | .active => s.setSlot i x.requestCancel
  | .free | .loading | .finished => s

/-- STOP_STANDING of a live standing exchange, by its state (R137); OK as well when a cancel of the repetition waits
(log 43). -/
def State.stopSlot (s : State) (i : SlotId) (st : Standing) : State :=
  let x := s.slot i
  match x.state with
  | .armed => s.finishSlot i .cancelled
  | .queued | .selected | .active | .disconnected =>
    s.setSlot i { x with standing := some { st with stopRequested := true } }
  | .free | .loading | .finished => s

/-! ### Trigger edges (9.3) -/

/-- Repetitions done after one more; without a limit 65,535 wraps to 0 (R132). -/
def Standing.nextRepetition (st : Standing) : Standing :=
  { st with repetitions :=
      if st.repeatCount = 0 ∧ st.repetitions = Config.maxRepetitions then 0 else st.repetitions + 1 }

/-- An edge finds the slot ARMED on its line (R132). The repetition starts before the Peer Table is asked, so a record that
ends PEER_SILENT here carries the new tag and number (R132, R5, R135), where R134 words it otherwise (log 53). -/
def State.edgeArmed (s : State) (i : SlotId) (st : Standing) : State :=
  let s := s.modSlot i fun x => { x.startRepetition with standing := some st.nextRepetition }
  if (s.peer (s.slot i).peer).state = .silent then s.finishSlot i .peerSilent else s.queueSlot i

/-- Whether an edge of its line finds the slot busy: a missed trigger (R133). -/
def Slot.missesEdge (x : Slot) : Bool :=
  match x.state with
  | .queued | .selected | .active | .disconnected => true
  | .finished => x.moreToCome
  | .free | .loading | .armed => false

/-- A missed trigger: the count rises, up to 255 (R133). -/
def Standing.miss (st : Standing) : Standing :=
  { st with missed := if st.missed < Config.maxMissed then st.missed + 1 else st.missed }

/-- What an edge of line `l` does to slot `i` (R132, R133). -/
def State.edgeSlot (l : TriggerLine) (s : State) (i : SlotId) : State :=
  let x := s.slot i
  match x.standing with
  | none => s
  | some st =>
    if st.line ≠ l then s
    else if x.state = .armed then s.edgeArmed i st
    else if x.missesEdge then s.setSlot i { x with standing := some st.miss }
    else s

/-- Whether an edge of line `l` finds at least one slot that cannot start (R133). -/
def State.overrun (s : State) (l : TriggerLine) : Bool :=
  slotIds.any fun i => (s.slot i).standing.elim false fun st => st.line = l && (s.slot i).missesEdge

/-! ### Happenings from other blocks (2.10) -/

/-- A peer was marked SILENT: QUEUED slots first, then the SELECTED one (R24). -/
def State.peerSilentSlots (s : State) (p : StationId) : State :=
  let s := s.finishWhere (fun x => x.state = .queued && x.peer = p) .peerSilent
  match s.selected? with
  | some i => if (s.slot i).peer = p then (s.slotWantGone i).finishSlot i .peerSilent else s
  | none => s

/-- A bus reset (R25). -/
def State.busResetSlots (s : State) : State :=
  s.finishWhere (fun x => x.state = .selected || x.state = .active || x.state = .disconnected) .busReset

/-- LEAVE: QUEUED in list order, ARMED in slot order, then SELECTED with its call not out (R26). -/
def State.leaveSlots (s : State) : State :=
  let s := s.sched.ready.foldl (fun s i => s.finishSlot i .left) s
  let s := s.finishWhere (fun x => x.state = .armed) .left
  match s.selected? with
  | some i => if (s.slot i).callOut then s else (s.slotWantGone i).finishSlot i .left
  | none => s

/-- OFFLINE on ID_CONFLICT: every live slot ends LEFT in slot order (R27). -/
def State.conflictSlots (s : State) : State :=
  s.finishWhere (fun x => x.state.live) .left

/-- SOFT_RESET: every slot FREE, both lists empty, generations kept (R27). -/
def Scheduler.softReset (c : Scheduler) : Scheduler :=
  { slots := slotIds.foldl (fun (v : Vector Slot 16) (i : SlotId) => v.set i (Slot.blank v[i].gen)) c.slots, ready := [], finished := [] }

/-- A record was written: the slot leaves the finished list and is freed, or re-armed when the record's more-to-come
flag was set (R23, R136). A slot that re-arms in LEAVING, or in OFFLINE after an ID_CONFLICT, ends LEFT at once
(R136, R139). -/
def State.recordWritten (s : State) (i : SlotId) (more : Bool) : State :=
  let x := s.slot i
  if x.state ≠ .finished then s
  else
    let s := { s with sched := { s.sched with finished := s.sched.finished.erase i } }
    if more then
      let s := s.setSlot i { x.reload with
        state := .armed, progress := 0, cursor := Cursor.start, outcome := none, moreToCome := false,
        callOut := false, cancelRequested := false }
      if s.station.state = .online then s else s.finishSlot i .left
    else s.setSlot i (Slot.blank x.gen)

end Sys2Proof.Machine
end

