-- ==== Sys2Proof/Machine/ServiceUnit.lean ====
section
/-! DEFINITION. The Service Unit: entries, resume queue, hold states, park order (file 02), and the Note Queue's
places (file 07). -/

namespace Sys2Proof.Machine

/-! ### Park order (R45) -/

/-- The number of PARKED entries. -/
def parkedCount (es : List Entry) : Nat := (es.filter fun e => e.state = .parked).length

/-- An entry with this stamp leaves PARKED: every higher stamp is lowered by one (R45). -/
def closeStamp (stamp : Option Nat) (es : List Entry) : List Entry :=
  match stamp with
  | none => es
  | some k => es.map fun e => { e with stamp := e.stamp.map fun n => if n > k then n - 1 else n }

/-- The keys of the PARKED entries that `p` picks, lowest stamp first (R44). -/
def State.parkedKeys (s : State) (p : Entry → Bool) : List Key :=
  [1, 2, 3, 4, 5, 6, 7, 8].filterMap fun k =>
    (s.service.entries.find? fun e => e.state = .parked && e.stamp = some k && p e).map (·.key)

/-! ### Hold states (R43) -/

/-- An entry that keeps its window from being HELD (3.5). -/
def Entry.keeps (w : WindowId) (e : Entry) : Bool :=
  e.window = w && (e.state = .connected || e.state = .resuming)

/-- A HOLDING window with no CONNECTED or RESUMING entry becomes HELD, and WINDOW_HELD is raised (R43). -/
def State.windowCheck (s : State) (w : WindowId) : State :=
  if (s.window w).hold = .holding ∧ ¬ s.service.entries.any (·.keeps w) then (s.setHold w .held).raise .windowHeld
  else s

/-! ### Moves of an entry between its states -/

/-- The entry enters READY or WITHDRAW_DUE at the tail of the resume queue; a PARKED one gives up its stamp, and its
park timer stops (R37, R44, R45). -/
def State.queueEntry (s : State) (k : Key) (f : Entry → Entry) : State :=
  match s.entry? k with
  | none => s
  | some e =>
    { s with service := { s.service with
        entries := (closeStamp e.stamp s.service.entries).map fun x =>
          if x.key = k then { f x with stamp := none, parkTimer := none } else x
        queue := s.service.queue.erase k ++ [k] } }

def State.readyEntry (s : State) (k : Key) : State :=
  s.queueEntry k fun e => { e with state := .ready }

/-- The entry becomes WITHDRAW_DUE with a reason (R45, R48). -/
def State.withdrawEntry (s : State) (k : Key) (r : WithdrawReason) : State :=
  s.queueEntry k fun e => { e with state := .withdrawDue, withdrawReason := some r }

/-- The entry enters PARKED: next stamp, park timer at the park limit (R45); while LEAVING it becomes WITHDRAW_DUE
instead (R48). A PARKED entry stays as it is. -/
def State.parkEntry (s : State) (k : Key) : State :=
  if s.station.state = .leaving then s.withdrawEntry k .leaving
  else
    match s.entry? k with
    | none => s
    | some e =>
      if e.state = .parked then s
      else
        { s with service := { s.service with
            entries := s.service.entries.map fun x =>
              if x.key = k then { x with state := .parked, stamp := some (parkedCount s.service.entries + 1),
                                         parkTimer := some s.parkSpan } else x
            queue := s.service.queue.erase k } }

/-- Park an entry that was CONNECTED or RESUMING, and check its window (R43). -/
def State.parkAndCheck (s : State) (k : Key) : State :=
  match s.entry? k with
  | none => s
  | some e => (s.parkEntry k).windowCheck e.window

/-- An entry leaves the table (R35): out of the queue, its stamp given up, its reservation gone with it, the want gone
if it was taken, and its window checked. -/
def State.removeEntry (s : State) (k : Key) : State :=
  match s.entry? k with
  | none => s
  | some e =>
    let s := { s with service := { s.service with
      entries := closeStamp e.stamp (s.service.entries.filter fun x => x.key ≠ k)
      queue := s.service.queue.erase k } }
    let s := if e.state = .resuming ∨ e.state = .withdrawing then s.entryWantGone k else s
    s.windowCheck e.window

/-- The entry is retired: no event (R35). -/
def State.retireEntry (s : State) (k : Key) : State := s.removeEntry k

/-- The entry is dropped: SERVICE_DROPPED (R35). -/
def State.dropEntry (s : State) (k : Key) : State :=
  if (s.entry? k).isSome then (s.removeEntry k).raise .serviceDropped else s

/-! ### Note Queue (8.1) -/

/-- Places reserved: the NOTE's, and one for each entry that holds a reservation (R121). -/
def State.reservedPlaces (s : State) : Nat :=
  s.notes.reserved.toNat + (s.service.entries.filter (·.reservation)).length

/-- A free place: notes held plus places reserved come to fewer than 16 (R121). -/
def State.freePlace (s : State) : Bool :=
  s.notes.stored.length + s.reservedPlaces < Config.notePlaces

/-- A note joins the tail of the stored list, and NOTE_ARRIVED is raised (R125). -/
def State.storeNote (s : State) (n : Note) : State :=
  { s with notes := { s.notes with stored := s.notes.stored ++ [n] } }.raise .noteArrived

/-- A NOTE's reserved place takes its MESSAGE (R122). -/
def State.storeMessage (s : State) (sender : StationId) (payload : List Byte) : State :=
  { s with notes := { s.notes with reserved := false } }.storeNote (.message sender payload)

/-- An entry is retired after a FINISH closing; a reservation it holds becomes an ANNOUNCE (R36, R124). -/
def State.finishEntry (s : State) (k : Key) : State :=
  match s.entry? k with
  | none => s
  | some e =>
    let s := s.retireEntry k
    if e.reservation then s.storeNote (.announce k.initiator e.window e.offset e.length) else s

/-! ### Ends of a tenure and of a call, at the target -/

/-- The closing of a CONNECTED entry by DISCONNECT is done (R36, R101, R120): the window's hold state at this moment decides
between READY and PARKED, and not the reason. After reason HELD the window is READY only when a RELEASE came before the
close, and the PARKED of R36 and R42 has then ended where it would begin (R44; log 9). -/
def State.settleDisconnect (s : State) (k : Key) : State :=
  match s.entry? k with
  | none => s
  | some e =>
    if e.state ≠ .connected then s
    else if (s.window e.window).hold = .ready then s.readyEntry k
    else s.parkAndCheck k

/-- The closing of a CONNECTED entry by FINISH is done (R36). -/
def State.settleFinish (s : State) (k : Key) : State :=
  match s.entry? k with
  | none => s
  | some e => if e.state = .connected then s.finishEntry k else s

/-- The entry's call was not answered (R38, R39, R108, R109). -/
def State.entryUnanswered (s : State) (k : Key) : State :=
  match s.entry? k with
  | none => s
  | some e =>
    if e.state ≠ .resuming ∧ e.state ≠ .withdrawing then s
    else
      let s := s.updateEntry k fun x => { x with noAnswers := x.noAnswers + 1 }
      if e.noAnswers + 1 ≥ Config.maxNoAnswers then s.dropEntry k
      else if e.state = .withdrawing then s.queueEntry k fun x => { x with state := .withdrawDue }
      else if (s.window e.window).hold = .ready then s.readyEntry k
      else s.parkAndCheck k

/-! ### HOLD, RELEASE, LEAVE, silence, resets -/

/-- HOLD of a READY window: its READY entries are parked in queue order, then it is HELD or HOLDING (R41). -/
def State.holdReady (s : State) (w : WindowId) : State :=
  let keys := s.service.queue.filter fun k =>
    (s.entry? k).elim false fun e => e.window = w && e.state = .ready
  let s := keys.foldl State.parkEntry s
  if s.service.entries.any (·.keeps w) then s.setHold w .holding else (s.setHold w .held).raise .windowHeld

/-- RELEASE of a HOLDING or HELD window: READY, and its PARKED entries join the queue in park order (R44). -/
def State.releaseHeld (s : State) (w : WindowId) : State :=
  let keys := s.parkedKeys fun e => e.window = w
  keys.foldl State.readyEntry (s.setHold w .ready)

/-- LEAVE: every PARKED entry becomes WITHDRAW_DUE with reason LEAVING, in park order (R48). -/
def State.leaveEntries (s : State) : State :=
  (s.parkedKeys fun _ => true).foldl (fun s k => s.withdrawEntry k .leaving) s

/-- A peer was marked SILENT: every entry keyed to it is dropped (R46). -/
def State.peerSilentEntries (s : State) (p : StationId) : State :=
  let keys := (s.service.entries.map (·.key)).filter fun k => k.initiator = p
  keys.foldl State.dropEntry s

/-- Every HOLDING window becomes HELD; WINDOW_HELD if at least one changed (R47). -/
def State.holdAll (s : State) : State :=
  windowIds.foldl (fun s w => if (s.window w).hold = .holding then (s.setHold w .held).raise .windowHeld else s) s

/-- The tables are emptied; SERVICE_DROPPED if any entry existed (R47, R49). -/
def State.emptyTable (s : State) : State :=
  { s with service := { s.service with entries := [], queue := [] } }.raiseIf (s.service.entries ≠ []) .serviceDropped

/-- The Window Table of R28 after a return to OFFLINE. -/
def State.resetWindows (s : State) : State :=
  { s with service := { s.service with windows := Vector.replicate 8 Window.disabled } }

end Sys2Proof.Machine
end

