-- ==== Sys2Proof/Machine/LocalPort.lean ====
section
/-! DEFINITION. The Local Port's arbiter (R141, R142), the loader (R144), the note copier (R126, R127) and the completion
writer (R170 to R173). -/

namespace Sys2Proof.Machine

/-! ### Transactions and the arbiter -/

/-- The bytes of a transaction at `addr` when `remaining` are left: up to the end of the 64-byte block (R141). -/
def chunk (addr remaining : Nat) : Nat := min remaining (Config.blockBytes - addr % Config.blockBytes)

def Transaction.addr : Transaction → Nat
  | .read a _ => a
  | .write a _ => a

def Transaction.size : Transaction → Nat
  | .read _ n => n
  | .write _ b => b.length

/-- A requester asks: granted at once when the port is idle, else it waits (R142). -/
def State.request (s : State) (who : Requester) (t : Transaction) : State :=
  match s.port.current with
  | none => { s with port := { s.port with current := some ⟨who, t, .running⟩ } }
  | some _ => { s with port := { s.port with waiting := s.port.waiting ++ [(who, t)] } }

/-- The requesters, highest priority first (R141). -/
def priorities : List Requester := [.mover, .walker, .writer, .copier, .loader]

/-- The port is granted to the waiting requester of highest priority, or becomes idle (R142). -/
def Port.grantNext (p : Port) : Port :=
  match priorities.findSome? fun r => p.waiting.find? fun w => w.1 = r with
  | some (r, t) => { p with current := some ⟨r, t, .running⟩, waiting := p.waiting.erase (r, t) }
  | none => { p with current := none }

/-! ### The loader (10.2) -/

def LoadKind.size : LoadKind → Nat
  | .descriptor _ => Config.descriptorBytes
  | .config => Config.configBytes

/-- A POST load that ends with no exchange: the slot is FREE again, its generation as it was (R4). -/
def State.freeLoading (s : State) (i : SlotId) : State :=
  if (s.slot i).state = .loading then s.setSlot i (Slot.blank (s.slot i).gen) else s

/-- A POST load that was told to stop ends with its present transaction, whatever that brought (R143, R4): the slot is FREE
and the result NOT_ONLINE. -/
def State.loadStopped (s : State) : State :=
  match s.loader with
  | some ⟨.descriptor i, _, _, _⟩ => ({ s with loader := none }.freeLoading i).finish codePost .notOnline
  | _ => s

/-- A local fault of the loader (R144, R150); a load that was told to stop ends with it (R143). -/
def State.loaderFault (s : State) : State :=
  match s.loader with
  | none => s
  | some l =>
    if l.stopping then s.loadStopped else
    let s := { s with loader := none }
    match l.kind with
    | .descriptor i => (s.freeLoading i).finish codePost .localFault 1
    | .config =>
      ({ s with station := { s.station with state := .offline, cause := .none } }.raise .stateChanged).finish
        codeJoin .localFault 1

/-- The loader's next read, or the fault of a read that would pass the top (R141, R144). -/
def State.loaderAsk (s : State) : State :=
  match s.loader with
  | none => s
  | some l =>
    let a := l.addr + l.bytes.length
    if a ≥ Config.localTop then s.loaderFault
    else s.request .loader (.read a (chunk a (l.kind.size - l.bytes.length)))

/-- The slot of a valid descriptor, still LOADING (2.2, R3); a NOTE's window and offset are 0 (R77). -/
def Descriptor.fill (d : Descriptor) (x : Slot) : Slot :=
  let note : Bool := d.op = 3
  let offset := if note then 0 else d.offset
  { Slot.blank x.gen with
    state := .loading
    op := if d.op = 1 then .read else if d.op = 2 then .write else .note
    peer := Fin.ofNat 16 d.peer
    window := if note then 0 else Fin.ofNat 8 d.window
    offset := offset
    length := d.length
    form := if d.form = 1 then .direct else .list
    localAddr := d.localAddr
    segments := d.segments
    userWord := BitVec.ofNat 32 d.userWord
    standing := if d.standing then
        some { line := Fin.ofNat 4 d.line, repeatCount := d.repeatCount, repetitions := 0, missed := 0,
               stopRequested := false, postingGen := x.gen, reloadOffset := offset, reloadLocal := d.localAddr,
               reloadLength := d.length }
      else none }

/-- A valid descriptor places its LOADING slot (R3): ARMED, QUEUED, or FINISHED when the peer is SILENT. -/
def State.placeSlot (s : State) (i : SlotId) (d : Descriptor) : State :=
  let x := d.fill (s.slot i)
  if (s.slot i).state ≠ .loading then s
  else if d.standing then s.setSlot i { x with state := .armed }
  else
    let s := s.setSlot i x.startRepetition
    if (s.peer x.peer).state = .silent then s.finishSlot i .peerSilent else s.queueSlot i

/-- The whole descriptor was read: it is validated (R2), and the slot is placed (R3) or freed (R4). -/
def State.descriptorLoaded (s : State) (i : SlotId) (bytes : List Byte) : State :=
  let d := parseDescriptor bytes
  match d.failing? s.ownId with
  | some n => (s.freeLoading i).finish codePost .descriptorInvalid n
  | none =>
    let s := s.placeSlot i d
    s.finish codePost .ok (tagDetail ⟨i, (s.slot i).gen⟩)

/-- The whole configuration block was read: it is checked and brought into force, or the JOIN fails (R155, R28). -/
def State.configLoaded (s : State) (bytes : List Byte) : State :=
  let c := parseConfig bytes
  match c.failing? with
  | some n =>
    ({ s with station := { s.station with state := .offline, cause := .none } }.raise .stateChanged).finish
      codeJoin .configInvalid n
  | none =>
    let s := { s with
      station := { s.station with
        state := .joining, settings := some c.settings, rollcallDue := true, rollcallTimer := none, collisionRun := 0
        peers := Vector.replicate 16 Peer.unknown }
      service := { s.service with windows := Vector.ofFn fun w => (c.window w).entry }
      writer := ⟨.running, none⟩
      host := { s.host with producer := 0, consumer := 0 } }
    (s.raise .stateChanged).finish codeJoin .ok

/-- A read of the loader completed (R144); a load that was told to stop ends with it (R143). -/
def State.loaderRead (s : State) (data : List Byte) : State :=
  match s.loader with
  | none => s
  | some l =>
    if l.stopping then s.loadStopped else
    let bytes := l.bytes ++ data
    if bytes.length < l.kind.size then { s with loader := some { l with bytes := bytes } }.loaderAsk
    else
      let s := { s with loader := none }
      match l.kind with
      | .descriptor i => s.descriptorLoaded i bytes
      | .config => s.configLoaded bytes

/-! ### The note copier (8.4) -/

/-- The copier's next write (R126, R175). -/
def State.copierAsk (s : State) : State :=
  match s.copier with
  | none => s
  | some c =>
    let a := c.addr + c.done
    s.request .copier (.write a ((c.bytes.drop c.done).take (chunk a (c.bytes.length - c.done))))

/-- The copy-out ended without fault (R127): the head note leaves the list. After an ID_CONFLICT cleared the queue the
detail is 0 (R129). -/
def State.copyEnded (s : State) : State :=
  let s := { s with copier := none }
  if s.notes.copying then
    let s := { s with notes := { s.notes with stored := s.notes.stored.tail, copying := false } }
    s.finish codeTakeNote .ok s.notes.stored.length
  else s.finish codeTakeNote .ok 0

/-- A write of the copier completed (R127). -/
def State.copierWrote (s : State) (n : Nat) : State :=
  match s.copier with
  | none => s
  | some c =>
    if c.done + n < c.bytes.length then { s with copier := some { c with done := c.done + n } }.copierAsk
    else s.copyEnded

/-- A local fault of the copier: the note stays at the head (R127, R150). -/
def State.copierFault (s : State) : State :=
  { s with copier := none, notes := { s.notes with copying := false } }.finish codeTakeNote .localFault 1

/-! ### The completion writer (12.4) -/

/-- Records written and not consumed: (P - C) modulo N (12.4). -/
def State.unconsumed (s : State) : Nat :=
  (s.host.producer + s.settings.ringSize - s.host.consumer) % s.settings.ringSize

/-- The local address of ring place P (12.4). -/
def State.placeAddr (s : State) : Nat := s.settings.ringBase + Config.recordBytes * s.host.producer

/-- A local fault of the writer at an address: SUSPENDED, RING_FAULT, FAULT_ADDRESS; the record keeps its values and
will be written again from its first byte (R172, R173). -/
def State.writerFault (s : State) (addr : Nat) : State :=
  { s with
    writer := { state := .suspended, record := s.writer.record.map fun (r : Record) => { r with done := 0 } }
    host := { s.host with faultAddress := BitVec.ofNat 32 addr } }.raise .ringFault

/-- The writer's next write into place P (R170, R175). -/
def State.writerAsk (s : State) : State :=
  match s.writer.record with
  | none => s
  | some r =>
    let a := s.placeAddr + r.done
    if a ≥ Config.localTop then s.writerFault a
    else s.request .writer (.write a ((r.bytes.drop r.done).take (chunk a (r.bytes.length - r.done))))

/-- The last write of a record completed: P advances, COMPLETION, the slot is freed or re-armed, and the writer stalls
on a full ring (R170, R23). The next head is taken by WRITER_TAKES_RECORD, after the grant that follows here (log 55). -/
def State.recordEnded (s : State) (r : Record) : State :=
  let s := { s with
    host := { s.host with producer := (s.host.producer + 1) % s.settings.ringSize }
    writer := { s.writer with record := none } }
  let s := ((s.raise .completion).recordWritten r.slot r.more)
  if s.unconsumed + 1 ≥ s.settings.ringSize then { s with writer := { s.writer with state := .stalled } } else s

/-- A write of the writer completed (R170). -/
def State.writerWrote (s : State) (n : Nat) : State :=
  match s.writer.record with
  | none => s
  | some r =>
    if r.done + n < r.bytes.length then
      { s with writer := { s.writer with record := some { r with done := r.done + n } } }.writerAsk
    else s.recordEnded r

/-- The missed-trigger count goes back to 0 when the writer takes the record (R135). -/
def Slot.clearMissed (x : Slot) : Slot :=
  { x with standing := x.standing.map fun st => { st with missed := 0 } }

/-- A RUNNING writer with room takes the head of the finished list (R170). -/
def State.takeRecord (s : State) : State :=
  match s.writer.state, s.writer.record, s.sched.finished with
  | .running, none, i :: _ =>
    if s.unconsumed + 1 < s.settings.ringSize then
      let x := s.slot i
      let s := s.setSlot i x.clearMissed
      { s with writer := { s.writer with record := some ⟨i, x.moreToCome, recordBytesOf i x, 0⟩ } }.writerAsk
    else s
  | _, _, _ => s

end Sys2Proof.Machine
end

