-- ==== Sys2Proof/Machine/DataMover.lean ====
section
/-! DEFINITION. The data mover and the segment walker: payload reads, stores, cursors and their local faults
(10.3, 10.4, R145 to R151). -/

namespace Sys2Proof.Machine

/-! ### Who sends, and what comes next (6.1, R84, R86) -/

/-- The data role: the target sends in a READ, the initiator in a WRITE or NOTE (6.1). -/
def Engine.isSender (e : Engine) : Bool :=
  match e.role, e.op with
  | .target, .read => true
  | .target, _ => false
  | .initiator, .read => false
  | .initiator, _ => true

/-- A stop keeps the sender from a new DATA frame (R84): at a target a closing frame decided on, the tenure limit
(R90) or a window that is not READY (R42), at an initiator its cancel-requested flag. -/
def State.stopped (s : State) : Bool :=
  match s.engine.role with
  | .target =>
    s.engine.closing.isSome || s.engine.tenureCount ≥ s.settings.tenureLimit ||
      (s.entry? s.engine.key).elim false fun e => (s.window e.window).hold ≠ .ready
  | .initiator => (s.slot s.engine.tag.slot).cancelRequested

/-- The frame in the unacknowledged list that stands at the send position: a go-back is under way (R86; log 22). -/
def Engine.resend? (e : Engine) : Option SentFrame := e.unacked.find? fun f => f.pos = e.sendPos

/-- Position and length of the frame the sender would send next: one sent again, or a new one (R84, R86). -/
def State.nextFrame? (s : State) : Option (Nat × Nat) :=
  match s.engine.resend? with
  | some f => if f.retries < Config.maxRetries then some (f.pos, f.len) else none
  | none =>
    if s.engine.unacked.length < Config.credit ∧ s.engine.sendPos < s.engine.length ∧ s.stopped = false then
      some (s.engine.sendPos, min Config.frameBytes (s.engine.length - s.engine.sendPos))
    else none

/-! ### Faults of the mover and the walker (R149, R150) -/

/-- An ABORT becomes due; the first cause stands (R97, R151). A cancel that is pending is no settled cause, and this one
replaces it (log 47). -/
def State.abortFor (s : State) (c : AbortCause) : State :=
  { s with engine := { s.engine with abortDue := s.engine.abortDue.or (some c) } }

/-- The mover and the walker give up their work, keeping the working cursor (R151). -/
def State.moverGiveUp (s : State) : State :=
  { s with mover := { s.mover with buffer := none, stores := [], fetch := none }, port := s.port.giveUp }

/-- A local fault was taken first: its ABORT goes out, and a frame of the partner belongs to no connection any more (R151). -/
def Engine.faulted (e : Engine) : Bool :=
  match e.abortDue with
  | some (.localFault _) => true
  | _ => false

/-- A local fault of the mover or the walker: ABORT(LOCAL_FAULT) is due, unless another cause came first (R150, R151). -/
def State.moverFault (s : State) (d : FaultDetail) : State :=
  s.moverGiveUp.abortFor (.localFault d)

/-! ### Where bytes lie (R29, R145, R147) -/

/-- Whether the local side of this connection is a segment list. -/
def State.usesList (s : State) : Bool := s.engine.role = .initiator && s.ownSlot.form = .list

/-- A place answer: an address and how many bytes lie in one run from it, an entry to fetch, or beyond the list. -/
inductive Place where
  | found (addr room : Nat)
  | fetch (index : Nat)
  | short
deriving DecidableEq, Repr

/-- The cursor moves to the next index when its offset reaches the cached entry's length (R147). It moves when the next
bytes are needed, so a payload that ends with a segment leaves the cursors at that segment's end (log 50). -/
def Mover.settled (m : Mover) : Cursor :=
  match m.cache with
  | some c => if c.index = m.working.index ∧ c.len ≤ m.working.offset then ⟨m.working.index + 1, 0⟩ else m.working
  | none => m.working

/-- The walker's answer at the working cursor (R147, R149). -/
def Mover.place (m : Mover) (segments : Nat) : Place :=
  let w := m.settled
  match m.cache with
  | some c =>
    if c.index = w.index then .found (c.addr + w.offset) (c.len - w.offset)
    else if w.index ≥ segments then .short else .fetch w.index
  | none => if w.index ≥ segments then .short else .fetch w.index

/-- The local place of position `p` of the exchange (R29, R145). -/
def State.placeOf (s : State) (p : Nat) : Place :=
  match s.engine.role with
  | .target =>
    match s.entry? s.engine.key with
    | some e => .found ((s.window e.window).base + e.offset + p) Config.maxLength
    | none => .short
  | .initiator =>
    if s.ownSlot.form = .list then s.mover.place s.ownSlot.segments
    else .found (s.ownSlot.localAddr + p) Config.maxLength

/-! ### Requests -/

/-- The walker's next read of the entry it fetches; the entry lies at the list address plus 8 × index (13.2). -/
def State.walkerAsk (s : State) : State :=
  match s.mover.fetch with
  | none => s
  | some f =>
    let a := s.ownSlot.localAddr + Config.segmentBytes * f.index + f.bytes.length
    if a ≥ Config.localTop then s.moverFault .busError
    else s.request .walker (.read a (chunk a (Config.segmentBytes - f.bytes.length)))

/-- The mover's or the walker's request for the piece at position `p`: `make a n` is the transaction of `n` bytes. -/
def State.askPiece (s : State) (p remaining : Nat) (make : Nat → Nat → Transaction) : State :=
  let s := if s.usesList then { s with mover := { s.mover with working := s.mover.settled } } else s
  match s.placeOf p with
  | .found a room =>
    if a ≥ Config.localTop then s.moverFault .busError
    else s.request .mover (make a (chunk a (min remaining room)))
  | .fetch index => { s with mover := { s.mover with fetch := some ⟨index, []⟩ } }.walkerAsk
  | .short => s.moverFault .segmentShort

/-- Whether the mover or the walker has a transaction waiting or in progress, or a fetch under way (R141). A transaction whose
result will be discarded is in progress until it ends. -/
def State.moverBusy (s : State) : Bool :=
  s.mover.fetch.isSome || s.port.waiting.any (·.1.ofConnection) ||
    s.port.current.elim false fun g => g.who.ofConnection && g.state ≠ .ended

/-- The mover asks for the next piece of its work: the payload being read, else the oldest store (R145, R146). -/
def State.moverAsk (s : State) : State :=
  if s.moverBusy then s
  else
    match s.mover.buffer, s.mover.stores with
    | some b, _ =>
      if b.bytes.length < b.len then s.askPiece (b.pos + b.bytes.length) (b.len - b.bytes.length) Transaction.read
      else s
    | none, h :: _ =>
      let rest := h.payload.drop h.done
      s.askPiece (h.pos + h.done) rest.length fun a n => .write a (rest.take n)
    | none, [] => s

/-- The sending mover fills its buffer for the next frame the Engine could send (R145). -/
def State.feed (s : State) : State :=
  if s.engine.phase = .sending ∧ s.engine.abortDue = none ∧ s.mover.buffer = none then
    match s.nextFrame? with
    | some (pos, len) => { s with mover := { s.mover with buffer := some ⟨pos, len, [], false⟩ } }.moverAsk
    | none => s
  else s

/-- A stop reaches a payload that is being read for a new frame: the read finishes and the payload is discarded (R145). -/
def State.stopRead (s : State) : State :=
  match s.mover.buffer with
  | some b =>
    if s.engine.resend?.isNone ∧ b.bytes.length < b.len then
      { s with mover := { s.mover with buffer := some { b with discard := true } } }
    else s
  | none => s

/-! ### Ends of reads, stores and fetches -/

/-- The working cursor moves forward as payloads are read or stored (R148). -/
def State.advance (s : State) (n : Nat) : State :=
  if s.usesList then
    { s with mover := { s.mover with working := { s.mover.working with offset := s.mover.working.offset + n } } }
  else s

/-- A read of the mover completed (R145). -/
def State.moverRead (s : State) (data : List Byte) : State :=
  match s.mover.buffer with
  | none => s
  | some b =>
    let s := s.advance data.length
    let b := { b with bytes := b.bytes ++ data }
    if b.bytes.length < b.len then { s with mover := { s.mover with buffer := some b } }.moverAsk
    else if b.discard then { s with mover := { s.mover with buffer := none } }.feed
    else { s with mover := { s.mover with buffer := some b } }

/-- The progress of the Engine's exchange rises to `p`; the confirmed cursor of a list moves to `c` (R15, R148). -/
def State.progressTo (s : State) (p : Nat) (c : Cursor) : State :=
  match s.engine.role with
  | .initiator =>
    s.modSlot s.engine.tag.slot fun x =>
      { x with progress := max x.progress p, cursor := if x.form = .list then c else x.cursor }
  | .target => s.updateEntry s.engine.key fun e => { e with progress := max e.progress p }

/-- The store of the oldest held payload ended: written sequence, progress, an ACK due (R85, R146). -/
def State.storeEnded (s : State) (h : HeldPayload) : State :=
  let s := { s with
    engine := { s.engine with writtenSeq := some h.seq, ackDue := true }
    mover := { s.mover with stores := s.mover.stores.tail } }
  (s.progressTo (h.pos + h.payload.length) s.mover.working).moverAsk

/-- A write of the mover completed (R146). -/
def State.moverWrote (s : State) (n : Nat) : State :=
  match s.mover.stores with
  | [] => s
  | h :: rest =>
    let s := s.advance n
    if h.done + n < h.payload.length then
      { s with mover := { s.mover with stores := { h with done := h.done + n } :: rest } }.moverAsk
    else s.storeEnded h

/-- A read of the walker completed; a whole entry is cached and the mover goes on (R147). -/
def State.walkerRead (s : State) (data : List Byte) : State :=
  match s.mover.fetch with
  | none => s
  | some f =>
    let bytes := f.bytes ++ data
    if bytes.length < Config.segmentBytes then
      { s with mover := { s.mover with fetch := some { f with bytes := bytes } } }.walkerAsk
    else
      { s with mover := { s.mover with fetch := none, cache := some (parseSegment f.index bytes) } }.moverAsk

/-! ### Starting over -/

/-- The confirmed cursor of the initiator's exchange (R148). -/
def State.confirmedCursor (s : State) : Cursor :=
  match s.engine.role with
  | .initiator => s.ownSlot.cursor
  | .target => Cursor.start

/-- The start of a tenure or a go-back: payloads given up, working cursor at the confirmed cursor, cache empty
(R145, R147, R148). -/
def State.moverRestart (s : State) : State :=
  let s := s.moverGiveUp
  { s with mover := { s.mover with working := s.confirmedCursor, cache := none } }

end Sys2Proof.Machine
end

