-- ==== Sys2Proof/Machine/ConnectionEngine.lean ====
section
/-! DEFINITION. The Connection Engine: opening, tenure, acknowledgement, closing, ABORT, silence (files 05 and 06). -/

namespace Sys2Proof.Machine

/-! ### Timers and turns -/

/-- A frame from the partner with the connection's tag: the turn is this station's, and a running silence timer starts
again (R53, R83, R88). -/
def State.hearPartner (s : State) : State :=
  { s with
    bus := { s.bus with turn := .mine }
    engine := { s.engine with silenceTimer := s.engine.silenceTimer.map fun _ => s.silenceLimit } }

/-- Whether a delivered frame comes from the partner with the connection's tag (R83). -/
def Engine.hears (e : Engine) (h : FrameHead) : Bool :=
  e.phase ≠ .idle && h.src = e.partner && h.slot = e.tag.slot && h.gen = e.tag.gen

/-! ### Closing (R95) and the points at which a target closes (R42, R90 to R92) -/

/-- The target decides on a closing frame, which goes out at its next turn (R90, R91, R92). A payload still being read is
discarded unsent (R145). -/
def State.close (s : State) (c : ClosingFrame) : State :=
  let s := s.moverGiveUp
  { s with engine := { s.engine with closing := some c } }.pump

/-- The Engine in CLOSING as closer: it sends FINISH or DISCONNECT and awaits END (6.1). -/
def Engine.asCloser (e : Engine) : Engine :=
  { e with phase := .closing, closeRetries := 0, ackDue := false, ackTimer := none, silenceTimer := none }

/-- The target answers the ACCEPT of its RESUME with a closing frame, in CLOSING as closer from here (R81). -/
def State.closeAtOnce (s : State) (c : ClosingFrame) : State :=
  { s with engine := { s.engine.asCloser with closing := some c } }.sendBody c.body

/-- The progress of the entry the Engine serves. -/
def State.entryProgress (s : State) : Nat := (s.entry? s.engine.key).elim 0 (·.progress)

/-- Close a tenure at its point: FINISH when the exchange is complete, else DISCONNECT with the reason (R42, R90, R91). -/
def State.closeAt (s : State) (complete : Bool) (r : DisconnectReason) : State :=
  s.close (if complete then .finish s.engine.length else .disconnect r s.entryProgress)

/-- A READ target whose frames are all acknowledged closes when the exchange is complete, at the tenure limit, or when
its window is not READY (R42, R90, R92). The limit, when reached, was reached first (R101). -/
def State.readPoint (s : State) : State :=
  if s.engine.unacked ≠ [] then s
  else if s.engine.sendPos ≥ s.engine.length then s.closeAt true .tenure
  else if s.engine.tenureCount ≥ s.settings.tenureLimit then s.closeAt false .tenure
  else if s.stopped then s.closeAt false .held
  else s

/-- A WRITE or NOTE target whose stores have ended and whose ACK has been sent closes when the exchange is complete or
its disconnect point was reached (R42, R91, R92). -/
def State.writePoint (s : State) : State :=
  if s.mover.stores ≠ [] ∨ s.engine.ackDue then s
  else if s.engine.op = .note then
    if s.engine.writtenSeq.isSome then s.closeAt true .tenure else s
  else if s.entryProgress ≥ s.engine.length then s.closeAt true .tenure
  else
    match s.engine.point with
    | some r => s.closeAt false r
    | none => s

/-- The target's check at each point of its tenure, until it has decided on a closing frame. -/
def State.targetPoint (s : State) : State :=
  if s.engine.role = .target ∧ s.engine.abortDue = none ∧ s.engine.closing = none then
    match s.engine.phase with
    | .sending => s.readPoint
    | .receiving => s.writePoint
    | _ => s
  else s

/-! ### The tenure (R83) -/

/-- A tenure begins at position `start` (R83). -/
def State.beginTenure (s : State) (start : Nat) : State :=
  let sender := s.engine.isSender
  let s := { s with engine := { s.engine with
    phase := if sender then .sending else .receiving
    sendPos := start, nextSeq := 0, unacked := [], expectedSeq := 0, writtenSeq := none, gapReported := false
    ackDue := false, tenureCount := 0, point := none, closing := none, closeRetries := 0, endSent := false
    answerTimer := none, ackTimer := none, closeTimer := none
    silenceTimer := if sender then none else some s.silenceLimit } }
  s.moverRestart.feed.targetPoint

/-- The position the next in-order payload starts at: progress and the payloads held before it (R85, R146). -/
def State.receivePos (s : State) : Nat :=
  let progress :=
    match s.engine.role with
    | .initiator => s.ownSlot.progress
    | .target =>
      if s.engine.op = .note then (if s.engine.writtenSeq.isSome then s.engine.length else 0) else s.entryProgress
  s.mover.stores.foldl (fun n h => n + h.payload.length) progress

/-! ### ABORT (R97) -/

def AbortCause.reason : AbortCause → AbortReason
  | .cancelled => .cancelled
  | .link _ => .link
  | .localFault _ => .localFault

/-- The outcome of an initiator's slot for the cause of its ABORT (R97). -/
def AbortCause.outcome : AbortCause → ExchangeOutcome
  | .cancelled => .cancelled
  | .link d => .linkError d
  | .localFault d => .localFault d

/-- This side of the connection ends: the holder releases, the Engine goes IDLE, an ACTIVE slot finishes with `o`, and at a
target the entry is dropped (R88, R97, R98). -/
def State.endSide (s : State) (o : ExchangeOutcome) : State :=
  let e := s.engine
  let s := s.leaveConnection
  match e.role with
  | .initiator => if (s.slot e.tag.slot).state = .active then s.finishSlot e.tag.slot o else s
  | .target => s.dropEntry e.key

/-- The outcome an ending takes when a settled ABORT cause came first (R151; log 24). -/
def State.firstOutcome (s : State) (o : ExchangeOutcome) : ExchangeOutcome :=
  s.engine.abortDue.elim o AbortCause.outcome

/-- Silence, or the holder's release, ends this side (R88, R89). A party that has settled its exchange just goes IDLE;
a PARKED or READY entry is not CONNECTED any more and stays. -/
def State.endSilent (s : State) : State :=
  let e := s.engine
  let o := s.firstOutcome (.linkError .silence)
  let s := s.leaveConnection
  match e.role with
  | .initiator => if (s.slot e.tag.slot).state = .active then s.finishSlot e.tag.slot o else s
  | .target =>
    if (s.entry? e.key).elim false fun x => x.state = .connected then s.dropEntry e.key else s

/-! ### Sender: acknowledgement and go-back (R86, R87) -/

/-- The ack timer at the ack time (R87). -/
def State.ackSpan (s : State) : Timer := some s.settings.ackTime

/-- The sender's part is done when everything is sent and acknowledged: a READ target closes, an initiator awaits FINISH
(R84). -/
def State.senderDone (s : State) : State :=
  match s.engine.role with
  | .target => s.targetPoint
  | .initiator =>
    if s.engine.unacked = [] ∧ s.engine.sendPos ≥ s.engine.length then
      { s with engine := { s.engine with phase := .awaitingFinish, silenceTimer := some s.silenceLimit } }
    else s

/-- The frames `acked` leave the head of the list, `rest` remains; progress rises to the end of the last of them, and the
send position is never below it. The working cursor follows it, and the cached entry is kept (R86; log 22). -/
def State.acknowledge (s : State) (acked rest : List SentFrame) : State :=
  match acked.getLast? with
  | none => s
  | some f =>
    let upTo := f.pos + f.len
    let jumps := s.engine.sendPos < upTo
    let s := (s.progressTo upTo f.endCursor)
    let s := { s with engine := { s.engine with
      unacked := rest
      sendPos := max s.engine.sendPos upTo
      ackTimer := if rest = [] then none else s.ackSpan } }
    if jumps then
      { s.moverGiveUp with mover := { s.moverGiveUp.mover with working := s.confirmedCursor } }
    else s

/-- A frame whose retransmission count is 3 is due again: ABORT(LINK) is due instead (R87), also while a cancel is pending
(log 47). -/
def State.checkRetries (s : State) : State :=
  match s.engine.resend? with
  | some f => if f.retries ≥ Config.maxRetries then s.abortFor (.link .retries) else s
  | none => s

/-- The sender goes back to the oldest frame of the list (R86, R87): the send position returns to it, its payload is read
again, and the ack timer restarts. -/
def State.goBack (s : State) : State :=
  match s.engine.unacked with
  | [] => s
  | f :: _ =>
    let s := { s with engine := { s.engine with sendPos := f.pos, ackTimer := s.ackSpan } }
    s.moverRestart.checkRetries.feed

/-- An ACK naming a frame of the list acknowledges it and every older one (R86). -/
def State.takeAck (s : State) (q : SeqNo) : State :=
  if s.engine.unacked.any fun f => f.seq = q then
    let older := s.engine.unacked.takeWhile fun f => f.seq ≠ q
    let from' := s.engine.unacked.dropWhile fun f => f.seq ≠ q
    (s.acknowledge (older ++ from'.take 1) (from'.drop 1)).senderDone.feed
  else s

/-- A NAK naming a frame of the list acknowledges the older ones and goes back; one naming the next sequence acknowledges
all; any other is ignored (R86). -/
def State.takeNak (s : State) (q : SeqNo) : State :=
  if s.engine.unacked.any fun f => f.seq = q then
    let older := s.engine.unacked.takeWhile fun f => f.seq ≠ q
    let from' := s.engine.unacked.dropWhile fun f => f.seq ≠ q
    (s.acknowledge older from').goBack
  else if q = s.engine.nextSeq then (s.acknowledge s.engine.unacked []).senderDone.feed
  else s

/-- SEND_DATA: the ready payload goes out, as a frame sent again or as a new frame (R84, R86, R87; log 36), unless an
ABORT is due (R20, R97). -/
def State.sendDataFrame (s : State) : State :=
  match s.mover.buffer with
  | none => s
  | some b =>
    if s.engine.phase = .sending ∧ s.abortCause? = none ∧ s.mayDrive = true ∧ b.bytes.length ≥ b.len
        ∧ s.nextFrame? = some (b.pos, b.len) then
      let again := s.engine.resend?
      let seq := again.elim s.engine.nextSeq (·.seq)
      let sent : SentFrame :=
        { seq := seq, pos := b.pos, len := b.len, retries := again.elim 0 fun f => f.retries + 1,
          endCursor := s.mover.working }
      let f := s.connFrame (.data seq b.bytes)
      let s : State := { s with
        engine := { s.engine with
          unacked := if again.isSome then s.engine.unacked.map fun (g : SentFrame) => if g.seq = seq then sent else g
                     else s.engine.unacked ++ [sent]
          nextSeq := if again.isSome then s.engine.nextSeq else s.engine.nextSeq + 1
          sendPos := s.engine.sendPos + b.len
          tenureCount := if s.engine.role = ExchangeRole.target ∧ again.isNone then s.engine.tenureCount + 1 else s.engine.tenureCount
          ackTimer := s.engine.ackTimer.or s.ackSpan }
        mover := { s.mover with buffer := none } }
      ((s.drive f).checkRetries).feed
    else s

/-! ### Receiver (R85) -/

/-- The length an in-order payload must have: 256, or the bytes remaining if fewer (R85). -/
def State.expectedPayload (s : State) : Nat := min Config.frameBytes (s.engine.length - s.receivePos)

/-- The disconnect point that an in-order frame of a WRITE reaches: HELD when the window is not READY, TENURE at the tenure
limit (R42, R91, R101). -/
def State.pointReached (s : State) : Option DisconnectReason :=
  match s.engine.role, s.engine.op with
  | .target, .write =>
    if (s.entry? s.engine.key).elim false fun e => (s.window e.window).hold ≠ .ready then some .held
    else if s.engine.tenureCount + 1 ≥ s.settings.tenureLimit then some .tenure
    else none
  | _, _ => none

/-- An in-order payload is taken and stored (R85): into the Note Queue at once for a NOTE target (R122), else by
the mover. The partner's credit keeps the payloads held to four; a frame beyond it is taken as well (R146; log 57). -/
def State.takeInOrder (s : State) (seq : SeqNo) (payload : List Byte) : State :=
  let pos := s.receivePos
  let point := s.pointReached
  let s : State := { s with engine := { s.engine with
    expectedSeq := s.engine.expectedSeq + 1, gapReported := false
    tenureCount := if s.engine.role = ExchangeRole.target then s.engine.tenureCount + 1 else s.engine.tenureCount
    point := point } }
  if s.engine.role = .target ∧ s.engine.op = .note then
    { s with engine := { s.engine with writtenSeq := some seq, ackDue := true } }.storeMessage s.engine.partner payload
  else
    { s with mover := { s.mover with stores := s.mover.stores ++ [HeldPayload.mk seq pos payload 0] } }.moverAsk

/-- A frame ahead: discarded, with one NAK for the gap (R85). A NAK that must wait for its turn goes out as it was handed
over, although the gap may have closed meanwhile (log 48). -/
def State.takeAhead (s : State) : State :=
  if s.engine.gapReported then s
  else { s with engine := { s.engine with gapReported := true } }.sendBody (.nak s.engine.expectedSeq)

/-- A DATA frame in RECEIVING, classified by its distance from the expected sequence (R85). After the disconnect point it is
discarded without an answer (R42, R91). A target that has decided on its closing frame takes no payload any more, and still
answers a duplicate (R85, R122). -/
def State.takeData (s : State) (seq : SeqNo) (payload : List Byte) : State :=
  if s.engine.point.isSome then s
  else
    let distance := (seq - s.engine.expectedSeq).val
    if distance = 0 then
      if s.engine.closing = none ∧ payload.length = s.expectedPayload ∧
          (s.engine.op = .note → s.engine.role = .target → s.notes.reserved = true) then
        s.takeInOrder seq payload
      else s
    else if distance ≤ 3 ∨ s.engine.writtenSeq = none then s.takeAhead
    else { s with engine := { s.engine with ackDue := true } }

/-- SEND_ACK: one ACK carrying the written sequence (R85), unless an ABORT is due (R20, R97). -/
def State.sendAckFrame (s : State) : State :=
  match s.engine.writtenSeq with
  | none => s
  | some q =>
    if s.engine.phase = .receiving ∧ s.abortCause? = none ∧ s.engine.ackDue = true ∧ s.mayDrive = true then
      { s with engine := { s.engine with ackDue := false } }.drive (s.connFrame (.ack q))
    else s

/-! ### The initiator's answers to closing frames (R93, R94, R96) -/

/-- The initiator has settled its exchange and answers END; its connection's data work is over and no other frame of
it goes out any more (R93, R94, R151). The Engine is in CLOSING from here, at a holder too, and no timer runs until END
has been driven (R96; log 52). -/
def State.answerEnd (s : State) : State :=
  let s := s.moverGiveUp.dropWaiting
  { s with engine := { s.engine with
      phase := .closing, endSent := true, closing := none, unacked := [], ackDue := false, answerTimer := none,
      ackTimer := none, silenceTimer := none, closeTimer := none } }.sendBody .endConnection

/-- A FINISH passes the tests of R93. -/
def State.finishAccepted (s : State) (total : Nat) : Bool :=
  total = s.engine.length &&
    (if s.engine.op = .read then s.ownSlot.progress = s.engine.length else s.engine.sendPos = s.engine.length)

/-- FINISH in a tenure: END and DONE, or ABORT(LINK) with detail OFFSET (R93). -/
def State.takeFinish (s : State) (total : Nat) : State :=
  if s.finishAccepted total then
    let i := s.engine.tag.slot
    let s := s.progressTo s.engine.length (s.engine.unacked.getLast?.elim s.confirmedCursor (·.endCursor))
    s.answerEnd.finishSlot i .done
  else s.abortFor (.link .offset)

/-- The resume offset of a DISCONNECT passes the test of R94. -/
def State.offsetAgrees (s : State) (offset : Nat) : Bool :=
  match s.engine.op with
  | .read => offset = s.ownSlot.progress
  | _ => offset = s.ownSlot.progress ||
      (offset ≤ s.engine.sendPos && s.engine.unacked.any fun f => f.pos + f.len = offset)

/-- DISCONNECT in a tenure: END and DISCONNECTED, or CANCELLED when a cancel is pending (R20), or ABORT(LINK) with detail
OFFSET (R94). An offset that fails the check takes R94's answer although a cancel is pending, where R20 names END (log 37). -/
def State.takeDisconnect (s : State) (offset : Nat) : State :=
  if s.offsetAgrees offset then
    let i := s.engine.tag.slot
    let cursor := (s.engine.unacked.find? fun f => f.pos + f.len = offset).elim s.confirmedCursor (·.endCursor)
    let s := (s.progressTo offset cursor).answerEnd
    if (s.slot i).cancelRequested then s.finishSlot i .cancelled else s.disconnectSlot i
  else s.abortFor (.link .offset)

/-! ### Ends of closing steps (R95) -/

/-- The closing step is done: the holder releases, the Engine goes IDLE, and a CONNECTED entry is settled (R95, R36). -/
def State.closingDone (s : State) : State :=
  let e := s.engine
  let s := s.leaveConnection
  match e.closing with
  | some (.finish _) => s.settleFinish e.key
  | some (.disconnect ..) => s.settleDisconnect e.key
  | none => s

/-- A WITHDRAW's call has an answer or has used its retries: the entry is retired (R39, R109). -/
def State.withdrawDone (s : State) : State :=
  let k := s.engine.key
  s.leaveConnection.retireEntry k

/-- Send the closing frame or the WITHDRAW again (R95, R109). -/
def State.closeAgain (s : State) (b : Body) : State :=
  { s with engine := { s.engine with closeRetries := s.engine.closeRetries + 1, closeTimer := none } }.sendBody b

/-- CLOSE_TIMEOUT: again, or done with the retries exhausted (R95, R109). -/
def State.closeExpired (s : State) : State :=
  if s.engine.phase = .calling ∧ s.engine.purpose = .withdraw then
    if s.engine.closeRetries < Config.maxRetries then
      s.closeAgain (.withdraw (((s.entry? s.engine.key).bind (·.withdrawReason)).getD .parkLimit))
    else s.withdrawDone
  else
    match s.engine.closing with
    | some c => if s.engine.closeRetries < Config.maxRetries then s.closeAgain c.body else s.closingDone
    | none => s

/-- A round begins, or the bus is taken, while this station is answering party: an answering closer's step is done at once
(R89, R95); any other side ends as the release it must have seen ends it (R89; log 7). -/
def State.answeringEnds (s : State) : State :=
  if s.engine.phase ≠ .idle ∧ s.engine.busRole = .answering then
    if s.engine.phase = .closing ∧ s.engine.closing.isSome then s.closingDone else s.endSilent
  else s

/-- The holder's release is reported to the answering party (R89). While the answer to the call is still going out it has no
effect, and the tenure begins at the end of that frame (log 45). After a local fault the ABORT that is due still goes out, on
the FREE bus (R151; log 24). -/
def State.releaseSeen (s : State) : State :=
  if s.engine.busRole = .answering ∧ s.bus.view ≠ .held then
    match s.engine.phase with
    | .sending | .receiving | .awaitingFinish => if s.engine.faulted then s else s.endSilent
    | .closing => if s.engine.endSent then s.engineIdle else s
    | _ => s
  else s

end Sys2Proof.Machine
end

