-- ==== Sys2Proof/Machine/StationControl.lean ====
section
/-! DEFINITION. Station Control (file 10): source reports, no-answers and silence, the three ways to OFFLINE, the drain,
SOFT_RESET, power-on, and the bus reset as every block takes it (files 01 to 11). -/

namespace Sys2Proof.Machine

/-! ### The Peer Table (R163, R164) -/

/-- The source of a well-formed frame heard becomes PRESENT with count 0 (R163). This station's own entry, and in JOINING
the claimed ID's, is unused (R156; log 33). -/
def State.sourceReport (s : State) (p : StationId) : State :=
  if p = s.ownId then s else s.setPeer p ⟨.present, 0⟩

/-- Every entry UNKNOWN with count 0 (R164). -/
def State.forgetPeers (s : State) : State :=
  { s with station := { s.station with peers := Vector.replicate 16 Peer.unknown } }

/-- A peer becomes SILENT: PEER_SILENT, its QUEUED and SELECTED slots end, its entries are dropped (R164, R24, R46). -/
def State.silence (s : State) (p : StationId) : State :=
  (((s.setPeer p ⟨.silent, Config.maxNoAnswers⟩).raise .peerSilent).peerSilentSlots p).peerSilentEntries p

/-- A no-answer of the partner (R163). -/
def State.peerNoAnswer (s : State) (p : StationId) : State :=
  let x := s.peer p
  if x.state = .silent then s.setPeer p ⟨.silent, Config.maxNoAnswers⟩
  else if x.count + 1 ≥ Config.maxNoAnswers then s.silence p
  else s.setPeer p { x with count := x.count + 1 }

/-! ### Going OFFLINE -/

/-- The Bus Interface of a station that goes OFFLINE: it drives no line and no frame, and keeps its view and a reset pulse
that runs (R63). -/
def Bus.cut (b : Bus) : Bus :=
  { b with holdsLine := false, driving := none, received := none, outbox := [], turn := .none }

/-- What every change to OFFLINE from JOINING, ONLINE or LEAVING does (R153, R157, R159, R161, R75, R164). -/
def State.goOffline (s : State) (cause : OfflineCause) : State :=
  (({ s with
      station := { s.station with state := .offline, cause := cause, rollcallDue := false, rollcallTimer := none }
      bus := s.bus.cut
      arb := .clear }.forgetPeers).resetWindows).raise .stateChanged

/-- JOINING to OFFLINE with ID_CONFLICT (R157). -/
def State.joiningConflict (s : State) : State := s.goOffline .idConflict

/-- A POST load is told to stop because the station leaves ONLINE: it ends at the end of its present transaction (R143, R4;
log 16). -/
def State.stopLoad (s : State) : State :=
  match s.loader with
  | some ⟨.descriptor i, a, bytes, _⟩ => { s with loader := some ⟨.descriptor i, a, bytes, true⟩ }
  | _ => s

/-- ONLINE or LEAVING to OFFLINE with ID_CONFLICT (R159): the connection is cut without a frame, every live slot ends LEFT in
slot order, an ACTIVE one with an ABORT due as well (R27, R100; log 24), a POST load is told to stop, the Service Table is
emptied with SERVICE_DROPPED and without WINDOW_HELD (R49; log 56), the Note Queue is cleared. A copy-out runs on (R129). -/
def State.idConflict (s : State) : State :=
  let s := (({ s.engineIdle with notes := .empty }.stopLoad).conflictSlots).emptyTable
  s.goOffline .idConflict

/-- Every slot is FREE. -/
def State.allFree (s : State) : Bool := slotIds.all fun i => (s.slot i).state = .free

/-- The condition of the drain (R161). -/
def State.drained (s : State) : Bool :=
  s.station.state = .leaving && s.allFree && s.service.entries.isEmpty && s.engine.phase = .idle

/-- The drain test (R161): a LEAVING station with nothing left goes OFFLINE with DRAINED. -/
def State.drainTest (s : State) : State := if s.drained then s.goOffline .drained else s

/-! ### SOFT_RESET and power-on (R162) -/

/-- The Local Port after SOFT_RESET: idle, nothing waits; a transaction on the local bus completes without a requester
(R143; log 17). -/
def Port.softReset (p : Port) : Port :=
  { current := none, waiting := [], orphans := p.orphans ++ (p.current.map (·.txn)).toList }

/-- SOFT_RESET (R162): RESULT holds OK, command code 0x03, detail 0, and no COMMAND_DONE is raised (R165). -/
def State.softReset (s : State) : State :=
  { s with
    station := .offline
    bus := .afterReset s.bus.resetLine s.bus.drivesReset
    arb := .clear
    engine := .idle
    sched := s.sched.softReset
    service := .empty
    notes := .empty
    port := s.port.softReset
    loader := none
    mover := .idle
    writer := ⟨.running, none⟩
    copier := none
    host := { HostInterface.powerOn with result := ⟨.ok, codeSoftReset, 0⟩ } }

/-- Power-on with the lines at the levels given (R162, R130, R63); the happenings that wait are kept, and no byte of local
memory counts as written by the controller any more (log 54). -/
def State.powerOn (s : State) (levels : BitVec 4) (resetLine : Bool) : State :=
  { State.atPowerOn levels resetLine with pending := s.pending }

/-! ### The bus reset (R61) -/

/-- The Bus Interface takes a bus reset (R61). -/
def Bus.reset (b : Bus) : Bus :=
  { b with view := .reset, holdsLine := false, resetLine := true, driving := none, received := none,
           outbox := [], turn := .none, restGapOpen := false }

/-- A JOINING station's roll call starts anew (R157). -/
def State.restartRollCall (s : State) : State :=
  if s.station.state = .joining then
    { s with station := { s.station with rollcallDue := true, rollcallTimer := none } }
  else s

/-- Every block takes the bus reset (R61, R25, R47, R74, R100, R128, R151, R157, R164). No frame is sent, and an ACTIVE slot with
an ABORT due ends BUS_RESET like any other (R25, R100; log 24). -/
def State.busReset (s : State) : State :=
  let s := { s.engineIdle with bus := s.bus.reset, arb := .clear }
  let s := (s.busResetSlots.emptyTable).holdAll
  ((s.forgetPeers.restartRollCall).raise .busResetSeen).drainTest

end Sys2Proof.Machine
end

