-- ==== Sys2Proof/Machine/BusArbitration.lean ====
section
/-! DEFINITION. The Arbitration Unit and the rounds (files 03 and 04): the Bus Request Selector, entering a round, winning,
losing, and the call frame that a won want becomes (R77, R156). -/

namespace Sys2Proof.Machine

/-! ### The Bus Request Selector (R65) -/

/-- R64 but for the want itself. A frame that this station still drives keeps it out as well (log 28). -/
def State.mayContend (s : State) : Bool :=
  (s.station.state = .joining || s.station.state = .online || s.station.state = .leaving) && s.bus.view = .free &&
    !s.arb.abstaining && s.engine.phase = .idle && s.bus.driving.isNone

/-- Step 3 of R65: the head of the resume queue is taken (R37). -/
def State.takeQueueHead (s : State) : Option (State × Want) :=
  match s.service.queue with
  | [] => none
  | k :: rest =>
    (s.entry? k).map fun e =>
      let due : Bool := e.state = .withdrawDue
      let s := s.updateEntry k fun x => { x with state := if due then .withdrawing else .resuming }
      ({ s with service := { s.service with queue := rest } }, if due then Want.withdraw k else Want.resume k)

/-- Step 4 of R65: the SELECTED slot whose call is not out, or the head of the ready list, now SELECTED (R8). A LEAVING
station has no Open want. -/
def State.openWant (s : State) : Option (State × Want) :=
  if s.arb.spent ∨ s.station.state = .leaving then none
  else
    match s.selected? with
    | some i => if (s.slot i).callOut then none else some (s, .connect i)
    | none =>
      match s.sched.ready with
      | [] => none
      | i :: rest =>
        let s := s.modSlot i fun x => { x with state := .selected, callOut := false }
        some ({ s with sched := { s.sched with ready := rest } }, .connect i)

/-- The station's want (R65). -/
def State.pickWant (s : State) : Option (State × Want) :=
  if s.station.state = .joining then
    if s.station.rollcallDue then some (s, .rollcall) else none
  else
    match s.taken? with
    | some e => some (s, if e.state = .resuming then .resume e.key else .withdraw e.key)
    | none => (s.takeQueueHead).or s.openWant

/-- The class of a want (R65). -/
def Want.roundClass : Want → RoundClass
  | .rollcall => .openClass
  | .connect _ => .openClass
  | .resume _ => .resumeClass
  | .withdraw _ => .resumeClass

/-- The rank signalled in a round (R67). -/
def rankOf (c : RoundClass) (id : StationId) : Nat :=
  match c with
  | .openClass => id.val
  | .resumeClass => 16 + id.val

/-- The rank this station signals, while it contends (R67). -/
def State.rank? (s : State) : Option Nat :=
  s.arb.entered.map fun e => rankOf e.want.roundClass s.ownId

/-! ### Rounds (R54, R66) -/

/-- A round begins: CONTENDING, no rest gap in this stretch of FREE, the abstention ends (R50, R52, R72). -/
def State.roundOpens (s : State) : State :=
  { s with bus := { s.bus with view := .contending, restGapOpen := false }, arb := { s.arb with abstaining := false } }

/-- The want with which the station may enter a round that begins now, and the state once its Selector has picked it (R64,
R65). -/
def State.roundEntry? (s : State) : Option (State × Want) := if s.mayContend then s.pickWant else none

/-- The station is in the round with this want (R66). -/
def State.enterRound (s : State) (w : Want) : State :=
  { s.roundOpens with arb := ⟨s.arb.spent, false, some ⟨w, false⟩⟩ }

/-- The station starts a round with the want its Selector picks (R54, R64, R66). -/
def State.contend (s : State) : State :=
  match s.roundEntry? with
  | some (s, w) => s.enterRound w
  | none => s

/-- The view goes to HELD with another station as the holder. -/
def State.heldByOther (s : State) : State :=
  { s with bus := { s.bus with view := .held, restGapOpen := false, turn := .none } }

/-! ### The hand-over (R68, R77, R156) -/

/-- The Engine opens a connection as holder and gives the call frame to the Bus Interface (R77). -/
def State.openCall (s : State) (role : ExchangeRole) (k : Key) (purpose : Purpose) (op : Operation) (length : Nat)
    (call : Body) : State :=
  let s := { s with engine := { Engine.idle with
    phase := .calling, busRole := .holder, role := role, partner := k.initiator, tag := k.tag, purpose := purpose,
    op := op, length := length } }
  s.drive (s.connFrame call)

/-- The call frame of a slot (R77); a NOTE's window and offset are 0. -/
def Slot.callBody (x : Slot) : Body :=
  let note : Bool := x.op = .note
  .connect x.op.code (BitVec.ofNat 8 (if note then 0 else x.window.val)) (BitVec.ofNat 32 (if note then 0 else x.offset))
    (BitVec.ofNat 32 x.length)

/-- The frame of the roll call (R156). -/
def State.rollcallFrame (s : State) : Frame :=
  ⟨⟨s.ownId, s.ownId, 0, 0⟩, .rollcall s.settings.serial⟩

/-- A won want goes to its sender (R68). -/
def State.handOver (s : State) (w : Want) : State :=
  match w with
  | .rollcall => s.drive s.rollcallFrame
  | .connect i =>
    let x := s.slot i
    s.openCall .initiator ⟨x.peer, ⟨i, x.gen⟩⟩ .connect x.op x.length x.callBody
  | .resume k =>
    match s.entry? k with
    | some e => s.openCall .target k .resume e.op e.length (.resume e.progress)
    | none => s.releaseLine
  | .withdraw k =>
    match s.entry? k with
    | some e => s.openCall .target k .withdraw e.op e.length (.withdraw (e.withdrawReason.getD .parkLimit))
    | none => s.releaseLine

/-- The round is won (R68, R69). -/
def State.roundWon (s : State) : State :=
  match s.arb.entered with
  | some e =>
    if s.bus.view = .contending then
      let s : State := { s with
        bus := { s.bus with view := .held, holdsLine := true, turn := .either }
        arb := { s.arb with spent := s.arb.spent || e.want.roundClass = .openClass, entered := none } }
      if e.gone then s.releaseLine else s.handOver e.want
    else s
  | none => s

end Sys2Proof.Machine
end

