-- ==== Sys2Proof/Machine/Reception.lean ====
section
/-! DEFINITION. What each received frame does at the Engine, the Service Unit, the Scheduler and Station Control (R58, files
01, 02, 05, 06, 07, 10). -/

namespace Sys2Proof.Machine

/-! ### The Bus Interface (R57, R58) -/

/-- Frames that begin within a step that hands them over. The others begin with a row of their own, which says that
this station had the data path then. -/
def Body.handedOver : Body → Bool
  | .accept _ | .refuse _ | .nak _ | .finish _ | .disconnect .. | .endConnection | .withdraw _ | .present => true
  | .connect .. | .resume _ | .data .. | .ack _ | .abort _ | .rollcall _ => false

/-- Frames are received while the view is HELD or FREE (R57). While this station drives a frame it receives none; a
frame of its own that was only handed over had not begun, if another station's frame turns out to have been on the
data path (R53; log 28). -/
def State.receives (s : State) : Bool :=
  (s.bus.view = .held || s.bus.view = .free) && s.bus.driving.all fun f => f.body.handedOver

/-- A frame of this station that was to begin has waited for the end of the other party's frame (R53): it stands at
the head of the frames that wait, the first closing frame of a tenure is still due, and a frame of an ended connection
is not sent. -/
def State.yieldPath (s : State) : State :=
  match s.bus.driving with
  | none => s
  | some f =>
    let waits : Bool := f.ofStationControl ||
      (s.ownsFrame f && !(s.engine.phase ≠ .closing && s.engine.closing.any fun c => f.body = c.body))
    { s with bus := { s.bus with driving := none, outbox := if waits then f :: s.bus.outbox else s.bus.outbox } }

/-- A well-formed frame of a connection: its source is reported, and an ONLINE or LEAVING station delivers one that is for
it and not from its own ID (R58). Frames that wait for their turn follow. -/
def State.hear (s : State) (h : FrameHead) (deliver : State → State) : State :=
  if h.src ≠ h.dst then
    match s.station.state with
    | .offline | .configuring => s
    | .joining => s.sourceReport h.src
    | .online | .leaving =>
      if h.src = s.ownId then s
      else if h.dst = s.ownId then (deliver (s.sourceReport h.src).yieldPath).pump.drainTest
      else s.sourceReport h.src
  else s

/-! ### Answering a call (R82) -/

/-- The context of a call taken (R82). -/
def State.answerContext (s : State) (h : FrameHead) (role : ExchangeRole) (purpose : Purpose) (op : Operation)
    (length : Nat) : State :=
  { s with
    bus := { s.bus with turn := .mine }
    engine := { Engine.idle with
      phase := .answering, busRole := .answering, role := role, partner := h.src, tag := ⟨h.slot, h.gen⟩,
      purpose := purpose, op := op, length := length } }

/-- The key of a CONNECT: source and tag (R30). -/
def keyOf (h : FrameHead) : Key := ⟨h.src, ⟨h.slot, h.gen⟩⟩

/-- The checks of R32 that concern a NOTE: 3 and 4. -/
def State.noteRefusal? (s : State) (src : StationId) : Option RefuseReason :=
  if s.settings.noteSenders.getLsbD src.val = false then some .denied
  else if s.freePlace = false then some .notesFull
  else none

/-- The checks of R32 that concern a READ or a WRITE: 5 to 9. -/
def State.windowRefusal? (s : State) (src : StationId) (o : Operation) (w : Window) (offset length : Nat) :
    Option RefuseReason :=
  if w.enabled = false then some .noWindow
  else if (if o = .read then w.readSet else w.writeSet).getLsbD src.val = false then some .denied
  else if offset + length > w.size then some .range
  else if s.service.entries.length ≥ Config.serviceEntries then some .tableFull
  else if o = .write ∧ w.announce = true ∧ s.freePlace = false then some .notesFull
  else none

/-- The request of a CONNECT that passes check 2 of R32: its operation, and the window it names unless it is a NOTE. -/
def requestOf? (operation window : Byte) (length : Nat) : Option (Operation × Option WindowId) :=
  match Operation.ofCode? operation.toNat with
  | none => none
  | some .note => if 1 ≤ length ∧ length ≤ Config.maxNote then some (.note, none) else none
  | some o => if h : 1 ≤ length ∧ window.toNat < 8 then some (o, some ⟨window.toNat, h.2⟩) else none

/-- The new service entry of a READ or WRITE (R34): CONNECTED on a READY window, else PARKED. -/
def State.newEntry (s : State) (k : Key) (o : Operation) (w : WindowId) (offset length : Nat) : Entry :=
  let ready : Bool := (s.window w).hold = .ready
  { key := k, op := o, window := w, offset := offset, length := length, progress := 0
    state := if ready then .connected else .parked
    parkTimer := if ready then none else some s.parkSpan
    noAnswers := 0
    reservation := o = .write && (s.window w).announce
    withdrawReason := none
    stamp := if ready then none else some (parkedCount s.service.entries + 1) }

def State.addEntry (s : State) (e : Entry) : State :=
  { s with service := { s.service with entries := s.service.entries ++ [e] } }

/-- REFUSE a call. -/
def State.refuse (s : State) (r : RefuseReason) : State := s.sendBody (.refuse r)

/-- A CONNECT taken by an IDLE Engine (R30): same-key rule (R31), checks (R32), answer (R33, R34). While a CONNECT
that names no valid operation is refused, the context holds the operation READ (log 38). -/
def State.takeConnect (s : State) (h : FrameHead) (operation window : Byte) (offset length : Nat) : State :=
  let s := s.dropEntry (keyOf h)
  let context (o : Operation) : State := s.answerContext h .target .connect o length
  if s.station.state = .leaving then (context .read).refuse .leaving
  else
    match requestOf? operation window length with
    | none => (context .read).refuse .badRequest
    | some (o, none) =>
      match s.noteRefusal? h.src with
      | some r => (context o).refuse r
      | none => { context o with notes := { s.notes with reserved := true } }.sendBody (.accept 0)
    | some (o, some w) =>
      match s.windowRefusal? h.src o (s.window w) offset length with
      | some r => (context o).refuse r
      | none =>
        let s := (context o).addEntry (s.newEntry (keyOf h) o w offset length)
        if (s.window w).hold = .ready then s.sendBody (.accept 0) else s.close (.disconnect .held 0)

/-- The slot that a RESUME or WITHDRAW matches (R104). -/
def State.matchesWait (s : State) (h : FrameHead) : Bool :=
  let x := s.slot h.slot
  x.state = .disconnected && h.gen = x.gen && h.src = x.peer

/-- A RESUME taken by an IDLE Engine (R104, R17). -/
def State.takeResume (s : State) (h : FrameHead) (offset : Nat) : State :=
  let x := s.slot h.slot
  let s := s.answerContext h .initiator .resume x.op x.length
  if s.matchesWait h then
    if offset = x.progress then (s.activateSlot h.slot).sendBody (.accept x.progress)
    else (s.finishSlot h.slot (.linkError .offset)).refuse .offset
  else s.refuse .unknownTag

/-- A WITHDRAW taken by an IDLE Engine (R104, R17, R110). -/
def State.takeWithdraw (s : State) (h : FrameHead) (reason : WithdrawReason) : State :=
  let x := s.slot h.slot
  let s := s.answerContext h .initiator .withdraw x.op x.length
  if s.matchesWait h then (s.finishSlot h.slot (.withdrawn reason)).answerEnd else s.refuse .unknownTag

/-! ### Frames of the open connection -/

/-- A frame of the open connection is heard, and taken if the Engine's state takes it (R83). -/
def State.within (s : State) (h : FrameHead) (take : State → State) : State :=
  if s.engine.hears h then take s.hearPartner else s

/-- CALLING with the call's answer awaited (R79). -/
def Engine.awaitsAnswer (e : Engine) : Bool := e.phase = .calling && e.answerTimer.isSome

/-- A tenure in which nothing has settled the connection yet (R97, R151). Once an ABORT(LINK) is due the frames of the
tenure are discarded, as after a local fault (log 49). -/
def Engine.inTenure (e : Engine) : Bool :=
  (e.phase = .sending || e.phase = .receiving || e.phase = .awaitingFinish) && e.abortDue.isNone

/-- CLOSING after END, as answering party (R96). -/
def Engine.afterEnd (e : Engine) : Bool := e.phase = .closing && e.endSent && e.busRole = .answering

/-- A further closing frame or WITHDRAW after END: END again, no table changes (R96). -/
def State.endAgain (s : State) : State := s.dropWaiting.sendBody .endConnection

/-- The answer timer stops (R79). -/
def State.stopAnswerTimer (s : State) : State := { s with engine := { s.engine with answerTimer := none } }

/-- ACCEPT of this station's RESUME (R81, R38, R106). With a window that is not READY the entry is set aside at once
(log 10), and the Engine is in CLOSING as closer. With a wrong start offset the Engine stays CALLING, with no timer,
until its ABORT(LINK) has been driven (log 41). -/
def State.resumeAccepted (s : State) (offset : Nat) : State :=
  let s := s.stopAnswerTimer
  let k := s.engine.key
  match s.entry? k with
  | none => s.leaveConnection
  | some e =>
    if offset ≠ e.progress then s.abortFor (.link .offset)
    else if e.state ≠ .resuming then s.leaveConnection
    else if (s.window e.window).hold = .ready then
      (s.updateEntry k fun x => { x with state := .connected, noAnswers := 0 }).beginTenure offset
    else
      ((s.updateEntry k fun x => { x with noAnswers := 0 }).parkAndCheck k).closeAtOnce (.disconnect .held offset)

/-- ACCEPT (R80, R81). -/
def State.takeAccept (s : State) (offset : Nat) : State :=
  if s.engine.awaitsAnswer then
    match s.engine.purpose with
    | .connect => (s.activateSlot s.engine.tag.slot).beginTenure 0
    | .resume => s.resumeAccepted offset
    | .withdraw => s
  else s

/-- REFUSE (R80, R81, R11, R12, R38, R39). -/
def State.takeRefuse (s : State) (reason : RefuseReason) : State :=
  if s.engine.awaitsAnswer then
    match s.engine.purpose with
    | .connect => s.leaveConnection.callRefused s.engine.tag.slot reason
    | .resume => s.leaveConnection.dropEntry s.engine.key
    | .withdraw => s.withdrawDone
  else s

/-- DISCONNECT: the answer to a CONNECT (R80, R14, R19), the close of a tenure (R94), or one repeated after END (R96). An
initiator of a NOTE discards it (log 23). -/
def State.takeDisconnectFrame (s : State) (reason : DisconnectReason) (offset : Nat) : State :=
  if s.engine.awaitsAnswer = true ∧ s.engine.purpose = .connect then
    if reason = .held then s.answerEnd.callHeld s.engine.tag.slot else s
  else if s.engine.inTenure = true ∧ s.engine.role = .initiator ∧ s.engine.op ≠ .note then s.takeDisconnect offset
  else if s.engine.afterEnd then s.endAgain
  else s

/-- FINISH (R93, R96). -/
def State.takeFinishFrame (s : State) (total : Nat) : State :=
  if s.engine.inTenure = true ∧ s.engine.role = .initiator then s.takeFinish total
  else if s.engine.afterEnd then s.endAgain
  else s

/-- END (R81, R95). -/
def State.takeEnd (s : State) : State :=
  if s.engine.awaitsAnswer = true ∧ s.engine.purpose = .withdraw then s.withdrawDone
  else if s.engine.phase = .closing ∧ s.engine.closing.isSome = true then s.closingDone
  else s

/-- DATA (R85). -/
def State.takeDataFrame (s : State) (seq : SeqNo) (payload : List Byte) : State :=
  if s.engine.inTenure = true ∧ s.engine.phase = .receiving then s.takeData seq payload else s

/-- ACK (R86). -/
def State.takeAckFrame (s : State) (seq : SeqNo) : State :=
  if s.engine.inTenure = true ∧ s.engine.phase = .sending then s.takeAck seq else s

/-- NAK (R86). -/
def State.takeNakFrame (s : State) (seq : SeqNo) : State :=
  if s.engine.inTenure = true ∧ s.engine.phase = .sending then s.takeNak seq else s

/-- The outcome of an initiator's slot on an ABORT received (R98, R16). -/
def AbortReason.outcome : AbortReason → ExchangeOutcome
  | .localFault => .targetFault
  | .cancelled => .linkError .retries
  | .link => .linkError .retries

/-- ABORT, from any state but IDLE and CALLING (R97, R98); after a local fault of this station it is discarded (R151). -/
def State.takeAbort (s : State) (reason : AbortReason) : State :=
  if s.engine.phase = .calling ∨ s.engine.faulted = true then s else s.endSide reason.outcome

/-- A frame of a call while the Engine is not IDLE: a WITHDRAW repeated after END draws END again (R96), any other is
discarded (R82). -/
def State.takeCallAgain (s : State) (body : Body) : State :=
  match body with
  | .withdraw _ => if s.engine.afterEnd then s.endAgain else s
  | _ => s

/-- A call frame: taken by an IDLE Engine, else a frame of the open connection (R82, R83). -/
def State.takeCall (s : State) (h : FrameHead) (body : Body) : State :=
  if s.engine.phase = .idle then
    match body with
    | .connect op w o l => s.takeConnect h op w o.toNat l.toNat
    | .resume o => s.takeResume h o
    | .withdraw r => s.takeWithdraw h r
    | _ => s
  else s.within h fun s => s.takeCallAgain body

/-! ### Station Control's frames -/

/-- A ROLLCALL that names this station is answered with PRESENT in the turn gap after it (R158). -/
def State.answerRollCall (s : State) : State :=
  { s.yieldPath with bus := { s.yieldPath.bus with turn := .mine } }.send ⟨⟨s.ownId, s.ownId, 0, 0⟩, .present⟩

/-- ROLLCALL: the ID it names is its destination field (log 26). In JOINING, naming the claimed ID, it is a conflict
(R157); in ONLINE or LEAVING it is answered (R158). -/
def State.hearRollCall (s : State) (h : FrameHead) : State :=
  match s.station.state with
  | .offline | .configuring => s
  | .joining => if h.dst = s.ownId then (s.sourceReport h.src).joiningConflict else s.sourceReport h.src
  | .online | .leaving => if h.dst = s.ownId then (s.sourceReport h.src).answerRollCall else s.sourceReport h.src

/-- PRESENT: from the claimed ID it ends the roll call (R157); otherwise it is a source report (R58). -/
def State.hearPresent (s : State) (h : FrameHead) : State :=
  match s.station.state with
  | .offline | .configuring => s
  | .joining => if h.src = s.ownId then s.joiningConflict else s.sourceReport h.src
  | .online | .leaving => if h.src = s.ownId then s else s.sourceReport h.src

/-! ### A frame of any kind -/

/-- The effect of a frame that was received (R58). -/
def State.takeFrame (s : State) (f : Frame) : State :=
  match f.body with
  | .connect .. => s.hear f.head fun s => s.takeCall f.head f.body
  | .resume _ => s.hear f.head fun s => s.takeCall f.head f.body
  | .withdraw _ => s.hear f.head fun s => s.takeCall f.head f.body
  | .accept o => s.hear f.head fun s => s.within f.head fun s => s.takeAccept o
  | .refuse r => s.hear f.head fun s => s.within f.head fun s => s.takeRefuse r
  | .data q p => s.hear f.head fun s => s.within f.head fun s => s.takeDataFrame q p
  | .ack q => s.hear f.head fun s => s.within f.head fun s => s.takeAckFrame q
  | .nak q => s.hear f.head fun s => s.within f.head fun s => s.takeNakFrame q
  | .finish t => s.hear f.head fun s => s.within f.head fun s => s.takeFinishFrame t
  | .disconnect r o => s.hear f.head fun s => s.within f.head fun s => s.takeDisconnectFrame r o
  | .endConnection => s.hear f.head fun s => s.within f.head fun s => s.takeEnd
  | .abort r => s.hear f.head fun s => s.within f.head fun s => s.takeAbort r
  | .rollcall _ => s.hearRollCall f.head
  | .present => s.hearPresent f.head

/-- The frame in the received-frame buffer is taken as one whole happening, and the buffer is empty again (R57). -/
def State.takeReceived (s : State) : State :=
  match s.bus.received with
  | some f => { s with bus := { s.bus with received := none } }.takeFrame f
  | none => s

/-- A good frame comes to its end on the data path: while frames are received it stands in the buffer and is taken
(R57; log 18). -/
def State.receiveFrame (s : State) (f : Frame) : State :=
  if s.receives then { s with bus := { s.bus with received := some f } }.takeReceived else s

end Sys2Proof.Machine
end

