-- ==== Sys2Proof/Machine/Transmission.lean ====
section
/-! DEFINITION. The end of a frame this station drives, good or lost to a collision (R59, R78, R95, R96, R99, R109), and the
sending of ABORT (R97). -/

namespace Sys2Proof.Machine

/-! ### The end of each kind of frame -/

/-- CONNECT or RESUME out good: the answer timer runs; a CONNECT is reported as made (R78, R9). With the want gone the holder
releases at once (R77). -/
def State.callOutGood (s : State) : State :=
  if s.engine.wantGone then s.leaveConnection
  else
    let s := { s with engine := { s.engine with answerTimer := some s.settings.answerTime } }
    if s.engine.purpose = .connect then
      s.modSlot s.engine.tag.slot fun x => { x with callOut := true, collisions := 0 }
    else s

/-- A call frame lost to a collision (R78, R9, R105): the holder releases; a CONNECT whose want is not gone counts at its
slot. -/
def State.callLost (s : State) : State :=
  let e := s.engine
  let s := s.leaveConnection
  if e.purpose = .connect ∧ e.wantGone = false then s.callCollided e.tag.slot else s

/-- The close timer at the ack time (R95, R109). -/
def State.startCloseTimer (s : State) : State :=
  { s with engine := { s.engine with closeTimer := some s.settings.ackTime } }

/-- A WITHDRAW has ended (R109): the first send starts both timers, a later one the close timer alone. -/
def State.withdrawSent (s : State) (good : Bool) : State :=
  if s.engine.answerTimer.isSome then s.startCloseTimer
  else if good then
    if s.engine.wantGone then s.leaveConnection
    else { s with engine := { s.engine with answerTimer := some s.settings.answerTime, closeRetries := 0 } }.startCloseTimer
  else s.callLost

/-- END has been driven (R80, R93, R94, R96): a holder releases, an answering party waits for the release under its silence
timer (R88). A lost END counts as driven (R99; log 35). -/
def State.endDriven (s : State) : State :=
  if s.engine.phase = .closing ∧ s.engine.endSent = true then
    match s.engine.busRole with
    | .holder => s.leaveConnection
    | .answering => { s with engine := { s.engine with silenceTimer := some s.silenceLimit } }
  else s

/-- ABORT has been driven, good or lost (R97, R99). -/
def State.abortDriven (s : State) : State :=
  match s.engine.abortDue with
  | some c => s.endSide c.outcome
  | none => s

/-- FINISH or DISCONNECT has been driven, good or lost (R95, R99): with the first one the target enters CLOSING as closer
(log 13), and the close timer runs from here. -/
def State.closingDriven (s : State) : State :=
  if s.engine.closing.isSome then
    (if s.engine.phase = .closing then s else { s with engine := s.engine.asCloser }).startCloseTimer
  else s

/-- What the end of a frame of the open connection does (R78, R83, R95, R96, R97, R99, R109). When its ACK has been sent, a
target may be at the point where it closes (R91, R92). -/
def State.engineFrameEnd (s : State) (f : Frame) (good : Bool) : State :=
  match f.body with
  | .connect .. => if s.engine.phase = .calling then (if good then s.callOutGood else s.callLost) else s
  | .resume _ => if s.engine.phase = .calling then (if good then s.callOutGood else s.callLost) else s
  | .withdraw _ => if s.engine.phase = .calling then s.withdrawSent good else s
  | .accept o => if s.engine.phase = .answering then s.beginTenure o else s
  | .refuse _ => if s.engine.phase = .answering then s.engineIdle else s
  | .finish _ => s.closingDriven
  | .disconnect .. => s.closingDriven
  | .endConnection => s.endDriven
  | .abort _ => s.abortDriven
  | .data .. => s
  | .ack _ => s.targetPoint
  | .nak _ => s
  | .rollcall _ => s
  | .present => s

/-- What the end of a frame does at the block that gave it (R59, R156, R157, R158). -/
def State.frameEnd (s : State) (f : Frame) (good : Bool) : State :=
  match f.body with
  | .rollcall _ =>
    if s.station.state ≠ .joining then s
    else if good then
      { s with station := { s.station with rollcallDue := false, rollcallTimer := some s.settings.answerTime } }
    else s.joiningConflict
  | .present => s
  | _ => if s.ownsFrame f then s.engineFrameEnd f good else s

/-! ### The two ends -/

/-- A frame of this station went out good (R59): the run of collisions ends (R159), the partner has the first right to the
data path (R53). -/
def State.sentGood (s : State) (f : Frame) : State :=
  let s := { s with
    bus := { s.bus with driving := none, turn := .theirs }
    station := { s.station with collisionRun := 0 } }
  (s.frameEnd f true).drainTest

/-- The fourth collision in a row of an ONLINE or LEAVING station (R159). -/
def State.runTest (s : State) : State :=
  if s.station.collisionRun ≥ Config.maxCollisions ∧ (s.station.state = .online ∨ s.station.state = .leaving) then
    s.idConflict
  else s

/-- A frame of this station was lost to a collision (R59): COLLISION, one more in a row (R159), the block that gave the
frame goes on (R99), and the run is tested before the drain (log 51). The partner then has the first right to the data
path, as after a frame that went out (log 39). -/
def State.sentLost (s : State) (f : Frame) : State :=
  let s := { s with
    bus := { s.bus with driving := none, turn := .theirs }
    station := { s.station with collisionRun := min Config.maxCollisions (s.station.collisionRun + 1) } }
  ((s.raise .collision).frameEnd f false).runTest.drainTest

/-! ### ABORT (R97) -/

/-- The Engine begins to drive the ABORT that is due, at its turn (R97, R20); its cause is settled from here (log 12). Frames
of this connection that waited are not sent. -/
def State.sendAbortFrame (s : State) : State :=
  match s.abortCause? with
  | none => s
  | some c =>
    if s.mayDrive = true ∧ s.engine.phase ≠ .idle ∧ s.engine.phase ≠ .answering then
      { s with
        engine := { s.engine with abortDue := some c }
        bus := { s.bus with
          driving := some (s.connFrame (.abort c.reason))
          outbox := s.bus.outbox.filter Frame.ofStationControl } }
    else s

end Sys2Proof.Machine
end

