-- ==== Sys2Proof/Machine/Transactions.lean ====
section
/-! DEFINITION. The ends of local transactions (R141, R142): who asked goes on, then the arbiter grants the port (log 15). -/

namespace Sys2Proof.Machine

/-- Write a completed transaction's bytes into local memory. -/
def State.store (s : State) (a : Nat) (bytes : List Byte) : State := { s with mem := Memory.write s.mem a bytes }

/-- The transaction on the local bus completed: its bytes are written, if it is a write. -/
def State.applyTransaction (s : State) : Transaction → State
  | .read .. => s
  | .write a bytes => s.store a bytes

/-- While the ended transaction is settled it still holds the port, its result spent: what its requester asks next waits for
the grant that follows (R142). -/
def Port.settle (p : Port) : Port := { p with current := p.current.map fun g => { g with state := .ended } }

/-- The arbiter grants the port (R142). -/
def State.grant (s : State) : State := { s with port := s.port.grantNext }

/-- The requester of a completed transaction goes on (R144, R145, R146, R147, R170, R127). -/
def State.requesterGoesOn (s : State) (g : Granted) (data : List Byte) : State :=
  match g.who, g.txn with
  | .mover, .read .. => s.moverRead data
  | .mover, .write _ bytes => s.moverWrote bytes.length
  | .walker, _ => s.walkerRead data
  | .writer, t => s.writerWrote t.size
  | .copier, t => s.copierWrote t.size
  | .loader, _ => s.loaderRead data

/-- The requester of a transaction answered with an error takes its local fault (R150, R151, R172). -/
def State.requesterFaults (s : State) (g : Granted) : State :=
  match g.who with
  | .mover => s.moverFault .busError
  | .walker => s.moverFault .busError
  | .writer => s.writerFault g.txn.addr
  | .copier => s.copierFault
  | .loader => s.loaderFault

/-- A transaction whose result nobody awaits has ended: the mover or the walker may ask for what waited behind it
(R141, R151). -/
def State.discardedEnds (s : State) (g : Granted) : State := if g.who.ofConnection then s.moverAsk else s

/-- Whether `data` is what a transaction brings: the bytes of a read, nothing for a write. -/
def Transaction.brings (t : Transaction) (data : List Byte) : Bool :=
  match t with
  | .read _ n => data.length = n
  | .write .. => data.isEmpty

/-- A transaction in progress completes, bringing `data`; one that a SOFT_RESET left on the bus comes first and is reported
to nobody (R143). -/
def State.transactionEnds (s : State) (data : List Byte) : State :=
  match s.port.orphans with
  | t :: rest =>
    if t.brings data then { s with port := { s.port with orphans := rest } }.applyTransaction t else s
  | [] =>
    match s.port.current with
    | none => s
    | some g =>
      if g.txn.brings data then
        let s := { s.applyTransaction g.txn with port := s.port.settle }
        (if g.state = .discarded then s.discardedEnds g else s.requesterGoesOn g data).grant.drainTest
      else s

/-- A transaction in progress is answered with an error; nothing is written (R175). -/
def State.transactionFails (s : State) : State :=
  match s.port.orphans with
  | _ :: rest => { s with port := { s.port with orphans := rest } }
  | [] =>
    match s.port.current with
    | none => s
    | some g =>
      let s := { s with port := s.port.settle }
      (if g.state = .discarded then s.discardedEnds g else s.requesterFaults g).grant.drainTest

/-! ### What the transaction in progress completes -/

/-- The transaction in progress, if its result still belongs to its requester. -/
def State.liveTransaction? (s : State) : Option Granted :=
  match s.port.orphans, s.port.current with
  | [], some g => if g.state = .discarded then none else some g
  | _, _ => none

/-- The load whose last read is in progress, unless it was told to stop. -/
def State.lastOfLoad? (s : State) : Option LoadKind :=
  match s.liveTransaction?, s.loader with
  | some ⟨.loader, .read _ n, _⟩, some l => if l.bytes.length + n ≥ l.kind.size ∧ l.stopping = false then some l.kind else none
  | _, _ => none

/-- The last read of a payload is in progress (R145). -/
def State.lastOfPayload (s : State) : Bool :=
  match s.liveTransaction?, s.mover.buffer with
  | some ⟨.mover, .read _ n, _⟩, some b => b.bytes.length + n ≥ b.len
  | _, _ => false

/-- The last write of the oldest held payload is in progress (R146). -/
def State.lastOfStore (s : State) : Bool :=
  match s.liveTransaction?, s.mover.stores with
  | some ⟨.mover, .write _ bytes, _⟩, h :: _ => h.done + bytes.length ≥ h.payload.length
  | _, _ => false

/-- The last read of a segment entry is in progress (R147). -/
def State.lastOfFetch (s : State) : Bool :=
  match s.liveTransaction?, s.mover.fetch with
  | some ⟨.walker, .read _ n, _⟩, some f => f.bytes.length + n ≥ Config.segmentBytes
  | _, _ => false

/-- The last write of a completion record is in progress (R170). -/
def State.lastOfRecord (s : State) : Bool :=
  match s.liveTransaction?, s.writer.record with
  | some ⟨.writer, .write _ bytes, _⟩, some r => r.done + bytes.length ≥ r.bytes.length
  | _, _ => false

/-- The last write of a copy-out record is in progress (R127). -/
def State.lastOfCopy (s : State) : Bool :=
  match s.liveTransaction?, s.copier with
  | some ⟨.copier, .write _ bytes, _⟩, some c => c.done + bytes.length ≥ c.bytes.length
  | _, _ => false

end Sys2Proof.Machine
end

