-- ==== Sys2Proof/Machine/HostCommands.lean ====
section
/-! DEFINITION. The host's commands (12.1, 12.2): one meaning for each command code, and a write of any code. -/

namespace Sys2Proof.Machine

abbrev Result := Host.Outcome State Fault Refusal

/-! ### What each command does once the port has taken it -/

/-- JOIN (R154). -/
def State.doJoin (a : Word) (s : State) : State :=
  if s.station.state = .offline ∧ s.sched.finished = [] then
    ({ s with
        station := { s.station with state := .configuring, cause := .none }
        host := { s.host with busy := true }
        loader := some ⟨.config, argAddress a, [], false⟩ }.raise .stateChanged).loaderAsk
  else s.finish codeJoin .notOffline

/-- LEAVE (R160, R26, R48, R161). -/
def State.doLeave (s : State) : State :=
  if s.station.state = .online then
    let s := { s with station := { s.station with state := .leaving } }.raise .stateChanged
    (s.leaveSlots.leaveEntries.drainTest).finish codeLeave .ok
  else s.finish codeLeave .notOnline

/-- Whether the station takes HOLD, RELEASE, PEER_RESET and BUS_RESET (R40, R62, R164). -/
def StationState.configured (x : StationState) : Bool := x = .joining || x = .online || x = .leaving

/-- PEER_RESET (R164). -/
def State.doPeerReset (a : Word) (s : State) : State :=
  if s.station.state.configured then
    match argStation? a with
    | none => s.finish codePeerReset .badArgument
    | some p =>
      if p = s.ownId then s.finish codePeerReset .badArgument
      else (s.setPeer p Peer.unknown).finish codePeerReset .ok
  else s.finish codePeerReset .notOnline

/-- POST (R1, R144). -/
def State.doPost (a : Word) (s : State) : State :=
  if s.station.state ≠ .online then s.finish codePost .notOnline
  else
    match s.freeSlot? with
    | none => s.finish codePost .tableFull
    | some i =>
      ({ s.modSlot i (fun x => { Slot.blank x.gen with state := .loading }) with
          host := { s.host with busy := true }
          loader := some ⟨.descriptor i, argAddress a, [], false⟩ }).loaderAsk

/-- CANCEL (R18, R6). A payload that an ACTIVE sender is reading will not be sent (R145). -/
def State.doCancel (a : Word) (s : State) : State :=
  match argTag? a with
  | none => s.finish codeCancel .badArgument
  | some t =>
    if s.matchTag t then
      let reads : Bool := (s.slot t.slot).state = .active && s.engine.role = .initiator
      let s := s.cancelSlot t.slot
      ((if reads then s.stopRead else s).drainTest).finish codeCancel .ok
    else s.finish codeCancel .unknownTag

/-- STOP_STANDING (R137, R6). -/
def State.doStopStanding (a : Word) (s : State) : State :=
  match argTag? a with
  | none => s.finish codeStopStanding .badArgument
  | some t =>
    match (s.slot t.slot).standing with
    | none => s.finish codeStopStanding .unknownTag
    | some st =>
      if s.matchTag t then (s.stopSlot t.slot st).finish codeStopStanding .ok
      else s.finish codeStopStanding .unknownTag

/-- The window that HOLD or RELEASE names, in force and enabled (R40). -/
def State.namedWindow? (s : State) (a : Word) : Option WindowId :=
  (argWindow? a).bind fun w => if (s.window w).enabled then some w else none

/-- The Engine meets a hold of the window of the entry it serves: no new DATA frame, and a READ with nothing outstanding
is at its point (R42, R145). -/
def State.holdReaches (s : State) (w : WindowId) : State :=
  if s.engine.role = .target ∧ (s.entry? s.engine.key).any fun e => e.window = w then
    (if s.engine.phase = .sending then s.stopRead else s).targetPoint
  else s

/-- HOLD (R40, R41). -/
def State.doHold (a : Word) (s : State) : State :=
  if s.station.state.configured then
    match s.namedWindow? a with
    | none => s.finish codeHold .badArgument
    | some w =>
      match (s.window w).hold with
      | .ready => ((s.holdReady w).holdReaches w).finish codeHold .ok
      | .holding => s.finish codeHold .ok
      | .held => (s.raise .windowHeld).finish codeHold .ok
  else s.finish codeHold .notOnline

/-- RELEASE (R40, R44). A sender that a hold had stopped goes on (R42). -/
def State.doRelease (a : Word) (s : State) : State :=
  if s.station.state.configured then
    match s.namedWindow? a with
    | none => s.finish codeRelease .badArgument
    | some w =>
      match (s.window w).hold with
      | .ready => s.finish codeRelease .ok
      | .holding => ((s.releaseHeld w).feed).finish codeRelease .ok
      | .held => ((s.releaseHeld w).feed).finish codeRelease .ok
  else s.finish codeRelease .notOnline

/-- TAKE_NOTE (R126). The address is checked before the list is looked at: the rule gives no order of the two (log 44). -/
def State.doTakeNote (a : Word) (s : State) : State :=
  if argAddress a + Config.copyOutBytes > Config.localTop then s.finish codeTakeNote .badArgument
  else
    match s.notes.stored with
    | [] => s.finish codeTakeNote .noNote
    | n :: _ =>
      { s with
        notes := { s.notes with copying := true }
        host := { s.host with busy := true }
        copier := some ⟨argAddress a, copyOutBytesOf n, 0⟩ }.copierAsk

/-- BUS_RESET (R62): this station drives the reset line; the line's change is the happening RESET_LINE_ASSERTED. -/
def State.doBusReset (s : State) : State :=
  if s.station.state.configured then
    { s with bus := { s.bus with drivesReset := true } }.finish codeBusReset .ok
  else s.finish codeBusReset .notOnline

/-- RING_RESTART (R173): a SUSPENDED writer is RUNNING and writes its record again from the first byte. -/
def State.doRingRestart (s : State) : State :=
  if s.writer.state = .suspended then
    ({ s with writer := { s.writer with state := .running } }.writerAsk).finish codeRingRestart .ok
  else s.finish codeRingRestart .ok

/-! ### The meanings -/

def execJoin (s : State) : Result := .next (s.takeCommand State.doJoin)

def execLeave (s : State) : Result := .next (s.takeCommand fun _ => State.doLeave)

/-- SOFT_RESET is taken in both port states (R166). -/
def execSoftReset (s : State) : Result := .next s.softReset

def execPeerReset (s : State) : Result := .next (s.takeCommand State.doPeerReset)

def execPost (s : State) : Result := .next (s.takeCommand State.doPost)

def execCancel (s : State) : Result := .next (s.takeCommand State.doCancel)

def execStopStanding (s : State) : Result := .next (s.takeCommand State.doStopStanding)

def execHold (s : State) : Result := .next (s.takeCommand State.doHold)

def execRelease (s : State) : Result := .next (s.takeCommand State.doRelease)

def execTakeNote (s : State) : Result := .next (s.takeCommand State.doTakeNote)

def execBusReset (s : State) : Result := .next (s.takeCommand fun _ => State.doBusReset)

def execRingRestart (s : State) : Result := .next (s.takeCommand fun _ => State.doRingRestart)

/-- A write to COMMAND (R166): the code's command, or BAD_ARGUMENT for a code that names none. -/
def State.commandWrite (s : State) (code : Byte) : State :=
  match code.toNat with
  | 1 => s.takeCommand State.doJoin
  | 2 => s.takeCommand fun _ => State.doLeave
  | 3 => s.softReset
  | 4 => s.takeCommand State.doPeerReset
  | 5 => s.takeCommand State.doPost
  | 6 => s.takeCommand State.doCancel
  | 7 => s.takeCommand State.doStopStanding
  | 8 => s.takeCommand State.doHold
  | 9 => s.takeCommand State.doRelease
  | 10 => s.takeCommand State.doTakeNote
  | 11 => s.takeCommand fun _ => State.doBusReset
  | 12 => s.takeCommand fun _ => State.doRingRestart
  | _ => s.takeCommand fun _ s => s.finish code .badArgument

/-- A command write with a code that names no command (R166); a code that does name one runs it (log 20). -/
def execUndefinedCommandCode (code : Byte) (s : State) : Result := .next (s.commandWrite code)

end Sys2Proof.Machine
end

