-- ==== Sys2Proof/Machine/RegisterWrites.lean ====
section
/-! DEFINITION. Writes to the register window other than commands (R165, R168, R169, R171). -/

namespace Sys2Proof.Machine

/-! ### RING_CONSUMER (R171) -/

/-- Bits 9:0 of a value written to RING_CONSUMER (12.1). -/
def consumerBits (value : Word) : Nat := value.toNat % 1024

/-- The test of R171: a ring is configured, the value is below N and lies on the way from C to P. -/
def State.consumerLegal (s : State) (c : Nat) : Bool :=
  let n := s.settings.ringSize
  c < n && (c + n - s.host.consumer) % n ≤ s.unconsumed

/-- A write to RING_CONSUMER (R171). -/
def State.writeConsumer (s : State) (value : Word) : State :=
  let c := consumerBits value
  if s.consumerLegal c then
    let s := { s with host := { s.host with consumer := c } }
    if s.writer.state = .stalled ∧ s.unconsumed + 1 < s.settings.ringSize then
      { s with writer := { s.writer with state := .running } }
    else s
  else s

/-! ### EVENT and EVENT_ENABLE (R168, R169) -/

/-- A write to EVENT clears the flags written as 1 (R168). -/
def State.writeEvent (s : State) (value : Word) : State :=
  { s with host := { s.host with event := s.host.event &&& ~~~(value.setWidth 11) } }

/-- A write to EVENT_ENABLE (R169). -/
def State.writeEnable (s : State) (value : Word) : State :=
  { s with host := { s.host with enable := value.setWidth 11 } }

/-- A write to ARGUMENT (R165). -/
def State.writeArgument (s : State) (value : Word) : State :=
  { s with host := { s.host with argument := value } }

/-! ### The meanings -/

def execRingConsumerWrite (value : Word) (s : State) : Result := .next (s.writeConsumer value)

def execEventWrite (value : Word) (s : State) : Result := .next (s.writeEvent value)

def execEventEnableWrite (value : Word) (s : State) : Result := .next (s.writeEnable value)

/-- A register write (R165): ARGUMENT is stored, a read-only register ignores it. At the offset of a register with a row of
its own the write has that row's effect (log 19); no register lies at any other offset. -/
def execRegisterWrite (offset : Nat) (value : Word) (s : State) : Result :=
  match offset with
  | 0x00 => .next (s.commandWrite (value.setWidth 8))
  | 0x04 => .next (s.writeArgument value)
  | 0x08 => .next s
  | 0x0C => .next s
  | 0x10 => .next (s.writeEvent value)
  | 0x14 => .next (s.writeEnable value)
  | 0x18 => .next s
  | 0x1C => .next (s.writeConsumer value)
  | 0x20 => .next s
  | 0x24 => .next s
  | 0x28 => .next s
  | _ => .fault .noSuchRegister

end Sys2Proof.Machine
end

