-- ==== Sys2Proof/Machine/BusEvents.lean ====
section
/-! DEFINITION. Power-on, the trigger lines, the bus lines and gaps, and the rounds (files 03, 04, 08, 10). -/

namespace Sys2Proof.Machine

/-! ### Power-on and trigger lines -/

def execPowerOn (levels : BitVec 4) (resetLine : Bool) (s : State) : Result := .next (s.powerOn levels resetLine)

/-- The filtered level of a line (R130). -/
def State.level (s : State) (l : TriggerLine) : Bool := s.triggers.levels.getLsbD l.val

def State.setLevel (s : State) (l : TriggerLine) (high : Bool) : State :=
  let bit : BitVec 4 := 1#4 <<< l.val
  { s with triggers := ⟨if high then s.triggers.levels ||| bit else s.triggers.levels &&& ~~~bit⟩ }

/-- A rising edge reaches the Scheduler (R132, R133): every slot that names the line, in ascending order, and
STANDING_OVERRUN once if at least one could not start. -/
def State.edge (s : State) (l : TriggerLine) : State :=
  let late := s.overrun l
  (slotIds.foldl (State.edgeSlot l) s).raiseIf late .standingOverrun

/-- TRIGGER_EDGE: the filtered level goes from low to high (R130). -/
def execTriggerEdge (l : TriggerLine) (s : State) : Result :=
  .next (if s.level l then s else (s.setLevel l true).edge l)

/-- TRIGGER_LINE_FALLS: the detector records the low level and reports nothing (R130). -/
def execTriggerLineFalls (l : TriggerLine) (s : State) : Result := .next (s.setLevel l false)

/-! ### The reset line (R60 to R63) -/

/-- RESET_LINE_ASSERTED: from not asserted to asserted is one bus reset (R60, R61). -/
def execResetLineAsserted (s : State) : Result := .next (if s.bus.resetLine then s else s.busReset)

/-- The view leaves RESET when the line falls (R50). -/
def State.resetFalls (s : State) : State :=
  let s := { s with bus := { s.bus with resetLine := false } }
  if s.bus.view = .reset then s.enterFree else s

/-- RESET_LINE_FALLS: the line cannot fall while this station drives it (R60). -/
def execResetLineFalls (s : State) : Result :=
  .next (if s.bus.resetLine = true ∧ s.bus.drivesReset = false then s.resetFalls else s)

/-- RESET_PULSE_ENDS: this station's 25 µs are over (R60). -/
def execResetPulseEnds (s : State) : Result := .next { s with bus := { s.bus with drivesReset := false } }

/-! ### The hold line and the gaps (R50, R52, R53) -/

/-- HOLD_LINE_DRIVEN: the view was FREE during another station's round (R50, R63). -/
def execHoldLineDriven (s : State) : Result :=
  .next (if s.bus.view = .free then s.answeringEnds.heldByOther.drainTest else s)

/-- RELEASE_GAP_EXPIRES (R50). -/
def execReleaseGapExpires (s : State) : Result :=
  .next (if s.bus.view = .held ∧ s.bus.holdsLine = false then s.enterFree else s)

/-- REST_GAP: at most one in each stretch of FREE (R52); both flags are cleared (R71, R72). -/
def execRestGap (s : State) : Result :=
  .next (if s.bus.view = .free ∧ s.bus.restGapOpen = true then
    { s with bus := { s.bus with restGapOpen := false }, arb := { s.arb with spent := false, abstaining := false } }
  else s)

/-- TURN_GAP_EXPIRES: either party may begin now (R53), and a frame that waits goes out. -/
def execTurnGapExpires (s : State) : Result :=
  .next (if s.bus.driving.isNone = true ∧ (s.bus.turn = .mine ∨ s.bus.turn = .theirs) then
    { s with bus := { s.bus with turn := .either } }.pump
  else s)

/-! ### Rounds (R54, R64 to R70) -/

/-- CONTEND (R66). -/
def execContend (s : State) : Result := .next s.contend

/-- A round has begun while this station is answering party: a frame of the connection that it drives meets the contention
signalling as a collision and stops (R89, R59), and its side is done (R89, R95). -/
def State.answeringMeetsRound (s : State) : State :=
  let s :=
    if s.engine.phase ≠ .idle ∧ s.engine.busRole = .answering then
      match s.bus.driving with
      | some f => if f.ofStationControl then s else s.sentLost f
      | none => s
    else s
  s.answeringEnds.drainTest

/-- Another station's round begins: a station that may contend and has a want joins it, any other stays out (R54). -/
def State.roundBegins (s : State) : State :=
  if s.bus.view = .free then
    match s.roundEntry? with
    | some (s, w) => s.enterRound w
    | none => s.roundOpens.answeringMeetsRound
  else s

/-- ROUND_BEGINS (R54). -/
def execRoundBegins (s : State) : Result := .next s.roundBegins

/-- ROUND_WON (R68, R69). -/
def execRoundWon (s : State) : Result := .next s.roundWon

/-- ROUND_LOST: the entered want is cleared and its owner keeps it (R70). -/
def execRoundLost (s : State) : Result :=
  .next (if s.bus.view = .contending ∧ s.arb.entered.isSome = true then
    { s.heldByOther with arb := { s.arb with entered := none } }
  else s)

/-- ROUND_NO_WINNER: every contender's signalling has stopped (R54, R50). A contender that had lost before the last one stopped
keeps its want and clears the entered one, as after any lost round (R70; log 46). -/
def execRoundNoWinner (s : State) : Result :=
  .next (if s.bus.view = .contending then { s.enterFree with arb := { s.arb with entered := none } } else s)

/-- ROUND_ENDS: a round without this station ends and its winner drives the hold line (R50). -/
def execRoundEnds (s : State) : Result :=
  .next (if s.bus.view = .contending ∧ s.arb.entered = none then s.heldByOther else s)

end Sys2Proof.Machine
end

