-- ==== Sys2Proof/Machine/FramesReceived.lean ====
section
/-! DEFINITION. The frames received, one meaning for each kind (4.4, R55 to R58). The fields stand as the frame carries them;
one outside its range makes the frame not well formed, and it is discarded (R55, R58). -/

namespace Sys2Proof.Machine

/-- A frame whose body was read; one that is not well formed is discarded as if never received (R55), the turn
included (log 39). -/
def State.receive (s : State) (h : FrameHead) (body : Option Body) : State :=
  match body with
  | some b => s.receiveFrame ⟨h, b⟩
  | none => s

/-- FRAME_BAD_CRC: discarded as if never received (R56); the turn stays as it was (log 39). Bytes that do form a good
frame are taken as that frame. -/
def execFrameBadCrc (bytes : List Byte) (s : State) : Result :=
  .next (match Frame.decode bytes with
    | some f => s.receiveFrame f
    | none => s)

def execConnectReceived (h : FrameHead) (operation window : Byte) (offset length : Word) (s : State) : Result :=
  .next (s.receive h (some (.connect operation window offset length)))

def execAcceptReceived (h : FrameHead) (offset : Word) (s : State) : Result :=
  .next (s.receive h ((offsetField? offset).map .accept))

def execRefuseReceived (h : FrameHead) (reason : Byte) (s : State) : Result :=
  .next (s.receive h ((RefuseReason.ofCode? reason.toNat).map .refuse))

def execDataReceived (h : FrameHead) (seq : Byte) (payload : List Byte) (s : State) : Result :=
  .next (s.receive h ((seqField? seq).bind fun q => (payloadField? payload).map (.data q ·)))

def execAckReceived (h : FrameHead) (seq : Byte) (s : State) : Result :=
  .next (s.receive h ((seqField? seq).map .ack))

def execNakReceived (h : FrameHead) (seq : Byte) (s : State) : Result :=
  .next (s.receive h ((seqField? seq).map .nak))

def execFinishReceived (h : FrameHead) (total : Word) (s : State) : Result :=
  .next (s.receive h ((totalField? total).map .finish))

def execDisconnectReceived (h : FrameHead) (reason : Byte) (offset : Word) (s : State) : Result :=
  .next (s.receive h
    ((DisconnectReason.ofCode? reason.toNat).bind fun r => (offsetField? offset).map (.disconnect r ·)))

def execEndReceived (h : FrameHead) (s : State) : Result := .next (s.receive h (some .endConnection))

def execResumeReceived (h : FrameHead) (offset : Word) (s : State) : Result :=
  .next (s.receive h ((offsetField? offset).map .resume))

def execWithdrawReceived (h : FrameHead) (reason : Byte) (s : State) : Result :=
  .next (s.receive h ((WithdrawReason.ofCode? reason.toNat).map .withdraw))

def execAbortReceived (h : FrameHead) (reason : Byte) (s : State) : Result :=
  .next (s.receive h ((AbortReason.ofCode? reason.toNat).map .abort))

def execRollcallReceived (h : FrameHead) (serial : BitVec 16) (s : State) : Result :=
  .next (s.receive h (some (.rollcall serial)))

def execPresentReceived (h : FrameHead) (s : State) : Result := .next (s.receive h (some .present))

end Sys2Proof.Machine
end

