-- ==== Sys2Proof/Machine/FramesSent.lean ====
section
/-! DEFINITION. The frames this station sends: their ends, DATA, ACK, ABORT, and the report of the holder's release (R59, R84,
R85, R89, R97). -/

namespace Sys2Proof.Machine

/-- FRAME_SENT_GOOD (R59). -/
def execFrameSentGood (s : State) : Result :=
  .next (match s.bus.driving with
    | some f => s.sentGood f
    | none => s)

/-- COLLISION_DETECTED (R59). -/
def execCollisionDetected (s : State) : Result :=
  .next (match s.bus.driving with
    | some f => s.sentLost f
    | none => s)

/-- SEND_DATA (R84, R86). -/
def execSendData (s : State) : Result := .next s.sendDataFrame

/-- SEND_ACK (R85). -/
def execSendAck (s : State) : Result := .next s.sendAckFrame

/-- SEND_ABORT (R97). -/
def execSendAbort (s : State) : Result := .next s.sendAbortFrame

/-- HOLD_LINE_RELEASED (R89; log 7). -/
def execHoldLineReleased (s : State) : Result := .next s.releaseSeen.drainTest

end Sys2Proof.Machine
end

