-- ==== Sys2Proof/Machine/Timers.lean ====
section
/-! DEFINITION. The expiries of the timers (files 01, 02, 05, 06, 10). An expiry of a timer that does not run changes nothing. -/

namespace Sys2Proof.Machine

/-- The call is a no-answer (R79): the holder releases, the owner settles its object first, then the Peer Table counts
(R13, R38, R39, R163). A WITHDRAW that is being sent again at that moment stops with the connection (R53, R109; log 40). -/
def State.answerExpired (s : State) : State :=
  let e := s.engine
  let s := s.leaveConnection
  let s := if e.purpose = .connect then s.callUnanswered e.tag.slot else s.entryUnanswered e.key
  s.peerNoAnswer e.partner

/-- ANSWER_TIMEOUT (R79). -/
def execAnswerTimeout (s : State) : Result :=
  .next (if s.engine.awaitsAnswer then s.answerExpired.drainTest else s)

/-- ACK_TIMEOUT (R87). Once an ABORT is due nothing is sent again. -/
def execAckTimeout (s : State) : Result :=
  .next (if s.engine.ackTimer.isSome = true ∧ s.engine.phase = .sending then
    if s.engine.abortDue.isSome then { s with engine := { s.engine with ackTimer := none } } else s.goBack
  else s)

/-- SILENCE_TIMEOUT (R88). A local fault that was taken first has settled the connection, and its ABORT still goes out (R151;
log 24). -/
def execSilenceTimeout (s : State) : Result :=
  .next (if s.engine.silenceTimer.isSome then
    if s.engine.faulted then { s with engine := { s.engine with silenceTimer := none } } else s.endSilent.drainTest
  else s)

/-- CLOSE_TIMEOUT (R95, R109). -/
def execCloseTimeout (s : State) : Result :=
  .next (if s.engine.closeTimer.isSome then s.closeExpired.drainTest else s)

/-- RESUME_DEADLINE_EXPIRES (R103, R17). -/
def execResumeDeadlineExpires (i : SlotId) (s : State) : Result :=
  .next (if (s.slot i).state = .disconnected ∧ (s.slot i).deadline.isSome = true then s.finishSlot i .resumeTimeout
  else s)

/-- PARK_TIMER_EXPIRES (R45). -/
def execParkTimerExpires (initiator : StationId) (slot : SlotId) (gen : Generation) (s : State) : Result :=
  let k : Key := ⟨initiator, ⟨slot, gen⟩⟩
  .next (if (s.entry? k).any fun e => e.state = .parked && e.parkTimer.isSome then s.withdrawEntry k .parkLimit else s)

/-- The roll call has met silence: ONLINE, and the hold line is released (R157). -/
def State.goOnline (s : State) : State :=
  let s := s.releaseLine
  { s with station := { s.station with state := .online, rollcallTimer := none } }.raise .stateChanged

/-- ROLLCALL_TIMER_EXPIRES (R157). -/
def execRollcallTimerExpires (s : State) : Result :=
  .next (if s.station.state = .joining ∧ s.station.rollcallTimer.isSome = true then s.goOnline else s)

end Sys2Proof.Machine
end

