-- ==== Sys2Proof/Machine/LocalEvents.lean ====
section
/-! DEFINITION. The ends of local transactions and the completion writer's own step (files 09 and 11), and the drain test as a
happening (R161). The rows for the end of one work are the end of the transaction that completes it (log 15). -/

namespace Sys2Proof.Machine

/-- LOCAL_TRANSACTION_ENDS (R141, R142). -/
def execLocalTransactionEnds (bytes : List Byte) (s : State) : Result := .next (s.transactionEnds bytes)

/-- LOCAL_BUS_ERROR (R150). -/
def execLocalBusError (s : State) : Result := .next s.transactionFails

/-- DESCRIPTOR_LOAD_ENDS (R144, R2). -/
def execDescriptorLoadEnds (bytes : List Byte) (s : State) : Result :=
  .next (match s.lastOfLoad? with
    | some (.descriptor _) => s.transactionEnds bytes
    | _ => s)

/-- CONFIG_LOAD_ENDS (R144, R155). -/
def execConfigLoadEnds (bytes : List Byte) (s : State) : Result :=
  .next (match s.lastOfLoad? with
    | some .config => s.transactionEnds bytes
    | _ => s)

/-- PAYLOAD_READ_ENDS (R145). -/
def execPayloadReadEnds (bytes : List Byte) (s : State) : Result :=
  .next (if s.lastOfPayload then s.transactionEnds bytes else s)

/-- PAYLOAD_STORE_ENDS (R146). -/
def execPayloadStoreEnds (s : State) : Result := .next (if s.lastOfStore then s.transactionEnds [] else s)

/-- SEGMENT_ENTRY_FETCHED (R147). -/
def execSegmentEntryFetched (bytes : List Byte) (s : State) : Result :=
  .next (if s.lastOfFetch then s.transactionEnds bytes else s)

/-- WRITER_TAKES_RECORD (R170, R135). -/
def execWriterTakesRecord (s : State) : Result := .next s.takeRecord

/-- COMPLETION_RECORD_WRITTEN (R170, R23). -/
def execCompletionRecordWritten (s : State) : Result := .next (if s.lastOfRecord then s.transactionEnds [] else s)

/-- COPY_OUT_ENDS (R127). -/
def execCopyOutEnds (s : State) : Result := .next (if s.lastOfCopy then s.transactionEnds [] else s)

/-- DRAIN_COMPLETE (R161). -/
def execDrainComplete (s : State) : Result := .next s.drainTest

end Sys2Proof.Machine
end

