-- ==== Sys2Proof/Machine/Dispatch.lean ====
section
/-! DEFINITION. The dispatch: one arm for each command. -/

namespace Sys2Proof.Machine

def exec (i : Instr) (s : State) : Host.Outcome State Fault Refusal :=
  match i with
  | .join => Sys2Proof.Machine.execJoin s
  | .leave => Sys2Proof.Machine.execLeave s
  | .softReset => Sys2Proof.Machine.execSoftReset s
  | .peerReset => Sys2Proof.Machine.execPeerReset s
  | .post => Sys2Proof.Machine.execPost s
  | .cancel => Sys2Proof.Machine.execCancel s
  | .stopStanding => Sys2Proof.Machine.execStopStanding s
  | .hold => Sys2Proof.Machine.execHold s
  | .release => Sys2Proof.Machine.execRelease s
  | .takeNote => Sys2Proof.Machine.execTakeNote s
  | .busReset => Sys2Proof.Machine.execBusReset s
  | .ringRestart => Sys2Proof.Machine.execRingRestart s
  | .undefinedCommandCode code => Sys2Proof.Machine.execUndefinedCommandCode code s
  | .ringConsumerWrite value => Sys2Proof.Machine.execRingConsumerWrite value s
  | .eventWrite value => Sys2Proof.Machine.execEventWrite value s
  | .eventEnableWrite value => Sys2Proof.Machine.execEventEnableWrite value s
  | .registerWrite offset value => Sys2Proof.Machine.execRegisterWrite offset value s
  | .powerOn levels resetLine => Sys2Proof.Machine.execPowerOn levels resetLine s
  | .triggerEdge line => Sys2Proof.Machine.execTriggerEdge line s
  | .resetLineAsserted => Sys2Proof.Machine.execResetLineAsserted s
  | .resetLineFalls => Sys2Proof.Machine.execResetLineFalls s
  | .resetPulseEnds => Sys2Proof.Machine.execResetPulseEnds s
  | .holdLineDriven => Sys2Proof.Machine.execHoldLineDriven s
  | .releaseGapExpires => Sys2Proof.Machine.execReleaseGapExpires s
  | .restGap => Sys2Proof.Machine.execRestGap s
  | .turnGapExpires => Sys2Proof.Machine.execTurnGapExpires s
  | .contend => Sys2Proof.Machine.execContend s
  | .roundBegins => Sys2Proof.Machine.execRoundBegins s
  | .roundWon => Sys2Proof.Machine.execRoundWon s
  | .roundLost => Sys2Proof.Machine.execRoundLost s
  | .roundNoWinner => Sys2Proof.Machine.execRoundNoWinner s
  | .frameBadCrc bytes => Sys2Proof.Machine.execFrameBadCrc bytes s
  | .connectReceived head operation window offset length => Sys2Proof.Machine.execConnectReceived head operation window offset length s
  | .acceptReceived head offset => Sys2Proof.Machine.execAcceptReceived head offset s
  | .refuseReceived head reason => Sys2Proof.Machine.execRefuseReceived head reason s
  | .dataReceived head seq payload => Sys2Proof.Machine.execDataReceived head seq payload s
  | .ackReceived head seq => Sys2Proof.Machine.execAckReceived head seq s
  | .nakReceived head seq => Sys2Proof.Machine.execNakReceived head seq s
  | .finishReceived head total => Sys2Proof.Machine.execFinishReceived head total s
  | .disconnectReceived head reason offset => Sys2Proof.Machine.execDisconnectReceived head reason offset s
  | .endReceived head => Sys2Proof.Machine.execEndReceived head s
  | .resumeReceived head offset => Sys2Proof.Machine.execResumeReceived head offset s
  | .withdrawReceived head reason => Sys2Proof.Machine.execWithdrawReceived head reason s
  | .abortReceived head reason => Sys2Proof.Machine.execAbortReceived head reason s
  | .rollcallReceived head serial => Sys2Proof.Machine.execRollcallReceived head serial s
  | .presentReceived head => Sys2Proof.Machine.execPresentReceived head s
  | .frameSentGood => Sys2Proof.Machine.execFrameSentGood s
  | .collisionDetected => Sys2Proof.Machine.execCollisionDetected s
  | .sendData => Sys2Proof.Machine.execSendData s
  | .sendAck => Sys2Proof.Machine.execSendAck s
  | .sendAbort => Sys2Proof.Machine.execSendAbort s
  | .holdLineReleased => Sys2Proof.Machine.execHoldLineReleased s
  | .answerTimeout => Sys2Proof.Machine.execAnswerTimeout s
  | .ackTimeout => Sys2Proof.Machine.execAckTimeout s
  | .silenceTimeout => Sys2Proof.Machine.execSilenceTimeout s
  | .closeTimeout => Sys2Proof.Machine.execCloseTimeout s
  | .resumeDeadlineExpires slot => Sys2Proof.Machine.execResumeDeadlineExpires slot s
  | .parkTimerExpires initiator slot gen => Sys2Proof.Machine.execParkTimerExpires initiator slot gen s
  | .rollcallTimerExpires => Sys2Proof.Machine.execRollcallTimerExpires s
  | .localTransactionEnds bytes => Sys2Proof.Machine.execLocalTransactionEnds bytes s
  | .localBusError => Sys2Proof.Machine.execLocalBusError s
  | .descriptorLoadEnds bytes => Sys2Proof.Machine.execDescriptorLoadEnds bytes s
  | .configLoadEnds bytes => Sys2Proof.Machine.execConfigLoadEnds bytes s
  | .payloadReadEnds bytes => Sys2Proof.Machine.execPayloadReadEnds bytes s
  | .payloadStoreEnds => Sys2Proof.Machine.execPayloadStoreEnds s
  | .segmentEntryFetched bytes => Sys2Proof.Machine.execSegmentEntryFetched bytes s
  | .writerTakesRecord => Sys2Proof.Machine.execWriterTakesRecord s
  | .completionRecordWritten => Sys2Proof.Machine.execCompletionRecordWritten s
  | .copyOutEnds => Sys2Proof.Machine.execCopyOutEnds s
  | .drainComplete => Sys2Proof.Machine.execDrainComplete s
  | .triggerLineFalls line => Sys2Proof.Machine.execTriggerLineFalls line s
  | .roundEnds => Sys2Proof.Machine.execRoundEnds s

end Sys2Proof.Machine
end

