-- ==== Sys2Proof/Safety.lean ====
section
/-! DEFINITION. What the claims rely on: the invariants that the manual states of the tables, each kept by every step from
every state that has it. -/

namespace Sys2Proof.Machine

/-- The ready list holds exactly the QUEUED slots, each once (R7); the finished list holds exactly the FINISHED slots, each
once (R22). -/
def SlotLists (s : State) : Prop :=
  s.sched.ready.Nodup ∧ s.sched.finished.Nodup ∧
    (∀ i : SlotId, i ∈ s.sched.ready ↔ (s.slot i).state = .queued) ∧
    (∀ i : SlotId, i ∈ s.sched.finished ↔ (s.slot i).state = .finished)

/-- At most one slot is SELECTED (R8). -/
def OneSelected (s : State) : Prop :=
  ∀ i j : SlotId, (s.slot i).state = .selected → (s.slot j).state = .selected → i = j

/-- The entry waits in the resume queue (R37). -/
def Entry.waits (e : Entry) : Bool := e.state = .ready || e.state = .withdrawDue

/-- The Service Table and the resume queue (R31, R37): at most 8 entries, no two with one key, and the queue holds exactly
the keys of the READY and WITHDRAW_DUE entries, each once. -/
def ServiceTable (s : State) : Prop :=
  s.service.entries.length ≤ Config.serviceEntries ∧ (s.service.entries.map (·.key)).Nodup ∧ s.service.queue.Nodup ∧
    (∀ k ∈ s.service.queue, ∃ e ∈ s.service.entries, e.key = k ∧ e.waits = true) ∧
    (∀ e ∈ s.service.entries, e.waits = true → e.key ∈ s.service.queue)

/-- No entry is CONNECTED or RESUMING on a HELD window (R43), and none is READY on a window that is not READY (R41). -/
def HoldStates (s : State) : Prop :=
  ∀ e ∈ s.service.entries,
    ((e.state = .connected ∨ e.state = .resuming) → (s.window e.window).hold ≠ .held) ∧
      (e.state = .ready → (s.window e.window).hold = .ready)

/-- Notes held plus places reserved never exceed 16 (R121). -/
def NotePlaces (s : State) : Prop := s.notes.stored.length + s.reservedPlaces ≤ Config.notePlaces

/-- The DATA frames sent and not yet acknowledged never exceed 4 (R84). -/
def Credit (s : State) : Prop := s.engine.unacked.length ≤ Config.credit

/-- Local memory keeps its canonical form. -/
def MemoryForm (s : State) : Prop := Memory.wf s.mem = true

/-- The frame under way and the frames that wait, in the order in which they go out. -/
def Bus.frames (b : Bus) : List Frame := b.driving.toList ++ b.outbox

/-- The received-frame buffer is empty between steps (R57). -/
def BufferEmpty (s : State) : Prop := s.bus.received = none

/-- The work of the Connection Engine lies within the exchange it was taken from (6.1, R68, R77, R82, R84, R85, R100, R151). -/
structure ExchangeWork (s : State) : Prop where
  /-- A want is entered only in a round, with the Engine IDLE; one not gone for a slot has that slot SELECTED. -/
  entered : ∀ e, s.arb.entered = some e → s.bus.view = .contending ∧ s.engine.phase = .idle ∧
    ∀ i, e.want = .connect i → e.gone = false → (s.slot i).state = .selected
  /-- An IDLE Engine has a cleared context, no work of the mover and the walker, and no frame waiting. -/
  idle : s.engine.phase = .idle →
    s.engine = .idle ∧ s.mover = .idle ∧ (∀ w ∈ s.port.waiting, w.1.ofConnection = false) ∧
      (∀ g, s.port.current = some g → g.who.ofConnection = true → g.state ≠ .running) ∧
      ∀ f ∈ s.bus.outbox, f.body.isRollCall = true
  /-- Frames sent and payloads held end within the length, and payloads are held only by a receiver that does not close yet. -/
  within : (∀ f ∈ s.engine.unacked, f.pos + f.len ≤ s.engine.length) ∧
    (∀ h ∈ s.mover.stores, h.pos + h.payload.length ≤ s.engine.length) ∧
    (s.mover.stores ≠ [] → s.engine.phase = .receiving ∧ s.engine.closing = none)
  /-- A want that is gone awaits no answer. -/
  gone : s.engine.wantGone = true → s.engine.answerTimer = none
  /-- A station that calls is the initiator exactly for a CONNECT. -/
  calls : s.engine.phase = .calling → (s.engine.role = .initiator ↔ s.engine.purpose = .connect)
  /-- At a target the entry of the connection has the Engine's length. -/
  target : s.engine.phase ≠ .idle → s.engine.role = .target → ∀ e ∈ s.service.entries, e.key = s.engine.key →
    e.length = s.engine.length
  /-- At an initiator the slot of the connection has the Engine's length: SELECTED while its call is made, ACTIVE in a tenure and
  while the ACCEPT of a RESUME goes out. -/
  initiator : s.engine.role = .initiator →
    (s.engine.phase = .calling → s.engine.wantGone = false →
      s.ownSlot.state = .selected ∧ s.ownSlot.length = s.engine.length) ∧
    (s.engine.phase = .sending ∨ s.engine.phase = .receiving ∨ s.engine.phase = .awaitingFinish ∨
        (s.engine.phase = .answering ∧ ∃ f ∈ s.bus.frames, ∃ o, f.body = .accept o ∧ s.ownsFrame f = true) →
      s.ownSlot.state = .active ∧ s.ownSlot.length = s.engine.length)

/-- Confirmed progress never exceeds the length (R15): in every slot that holds an exchange and in every service entry. -/
def ProgressBound (s : State) : Prop :=
  (∀ i : SlotId, (s.slot i).progress ≤ (s.slot i).length) ∧ ∀ e ∈ s.service.entries, e.progress ≤ e.length

/-! ### Terms the claims use -/

/-- The register window after a command that the port took is answered: RESULT, READY, not lost, COMMAND_DONE (R166,
R167). -/
def HostInterface.answered (h : HostInterface) (command : Byte) (code : ResultCode) (detail : Nat := 0) : HostInterface :=
  { h with
    result := ⟨code, command, BitVec.ofNat 16 detail⟩, busy := false, lost := false
    event := h.event ||| Event.commandDone.mask }

/-- The register window after an event is raised (R168). -/
def HostInterface.raised (h : HostInterface) (e : Event) : HostInterface := { h with event := h.event ||| e.mask }

/-- The Local Port after a request (R142): granted when idle, else waiting. -/
def Port.asked (p : Port) (who : Requester) (t : Transaction) : Port :=
  if p.current = none then { p with current := some ⟨who, t, .running⟩ } else { p with waiting := p.waiting ++ [(who, t)] }

/-- A frame with this head, heard now, is delivered to the Connection Engine (R57, R58). -/
def State.delivers (s : State) (h : FrameHead) : Prop :=
  s.receives = true ∧ (s.station.state = .online ∨ s.station.state = .leaving) ∧ h.src ≠ h.dst ∧ h.src ≠ s.ownId ∧
    h.dst = s.ownId

/-- The frames of this station that wait while another station's frame is on the data path, oldest first (R53): one
that it had only handed over waits as the first of them (log 28), unless its connection has ended or it is the closing
frame that is due. -/
def State.waiting (s : State) : List Frame :=
  let due (f : Frame) : Bool := s.engine.phase ≠ .closing && s.engine.closing.any fun c => f.body = c.body
  (s.bus.driving.toList.filter fun f => f.body.isRollCall || (s.ownsFrame f && !due f)) ++ s.bus.outbox

/-- The closing frame that may go out now: the target has decided on it and not sent it, owes no ACK (R85) and has no ABORT due
(R92, R97; log 13). -/
def State.closingDue? (s : State) : Option Frame :=
  if s.engine.phase ≠ .closing ∧ s.engine.ackDue = false ∧ s.abortCause? = none then
    s.engine.closing.map fun c => s.connFrame c.body
  else none

/-- The station when a frame from its partner has ended and these frames wait, oldest first (R53): this station has
the first right to the data path, and begins the first of them, or the closing frame that is due when none waits.
While an ABORT is due it begins none but Station Control's (R20, R97). -/
def State.atTurn (s : State) (frames : List Frame) : State :=
  let bus := { s.bus with turn := .mine, received := none }
  match frames with
  | [] => { s with bus := { bus with driving := s.closingDue?, outbox := [] } }
  | f :: rest =>
    if f.body.isRollCall = true ∨ s.abortCause? = none then { s with bus := { bus with driving := some f, outbox := rest } }
    else { s with bus := { bus with driving := none, outbox := frames } }

/-- Station Control after a frame from `p` was heard (R163). -/
def Station.heard (x : Station) (p : StationId) : Station := { x with peers := x.peers.set p ⟨.present, 0⟩ }

/-- What a frame of the open connection does by being heard, but for the turn: its source is PRESENT, and a running
silence timer starts again at 4 × ack time (R83, R88, R163). -/
def State.heardFrom (s : State) (h : FrameHead) : State :=
  { s with
    station := s.station.heard h.src
    engine := { s.engine with silenceTimer := s.engine.silenceTimer.map fun _ => 4 * s.settings.ackTime } }

/-- The station after a frame of the open connection was heard that does nothing more. -/
def State.hearing (s : State) (h : FrameHead) : State := (s.heardFrom h).atTurn s.waiting

/-- The station after its side of a connection ended: the context cleared, the timers stopped, mover and walker idle (R151),
a NOTE reservation freed (R122), a frame of the connection under way stopped and none that waited sent (R53, log 40); a
holder has released the hold line and abstains (R51, R72). -/
def State.offConnection (s : State) : State :=
  { s with
    engine := .idle
    mover := .idle
    port := s.port.giveUp
    notes := { s.notes with reserved := false }
    bus := { s.bus with
      holdsLine := if s.engine.busRole = .holder then false else s.bus.holdsLine
      driving := s.bus.driving.filter fun f => f.body.isRollCall
      outbox := s.bus.outbox.filter Frame.ofStationControl
      turn := if ∃ f ∈ s.bus.driving, f.body.isRollCall = false then .theirs else s.bus.turn }
    arb := { s.arb with abstaining := if s.engine.busRole = .holder then true else s.arb.abstaining } }

/-- A slot as it enters FINISHED (R22). -/
def Slot.ended (x : Slot) (o : ExchangeOutcome) (more : Bool := false) : Slot :=
  { x with state := .finished, outcome := some o, moreToCome := more, deadline := none }

/-- The Exchange Table after slot `i` entered FINISHED: out of the ready list, at the tail of the finished list (R7, R22). -/
def Scheduler.ended (c : Scheduler) (i : SlotId) (o : ExchangeOutcome) (more : Bool := false) : Scheduler :=
  { slots := c.slots.set i (c.slots[i].ended o more), ready := c.ready.erase i, finished := c.finished ++ [i] }

/-- The Exchange Table with slot `i` replaced. -/
def Scheduler.put (c : Scheduler) (i : SlotId) (x : Slot) : Scheduler := { c with slots := c.slots.set i x }

/-- The Exchange Table after slot `i`, now `x`, entered QUEUED at the tail of the ready list (R7). -/
def Scheduler.queued (c : Scheduler) (i : SlotId) (x : Slot) : Scheduler :=
  { c with slots := c.slots.set i { x with state := .queued, callOut := false }, ready := c.ready ++ [i] }

/-- The station after the entry of key `k` on window `w`, which was not PARKED, left the Service Table (R35): out of the resume
queue, and a HOLDING window that no entry keeps any more is HELD with WINDOW_HELD (R43). -/
def State.afterEntry (s : State) (k : Key) (w : WindowId) : State :=
  let rest := s.service.entries.filter fun e => e.key ≠ k
  let held : Bool := (s.window w).hold = .holding &&
    !(rest.any fun e => e.window = w && (e.state = .connected || e.state = .resuming))
  { s with
    service :=
      { windows := if held then s.service.windows.set w { s.window w with hold := .held } else s.service.windows
        entries := rest, queue := s.service.queue.erase k }
    host := if held then s.host.raised .windowHeld else s.host }

/-- Whether an exchange has more to come when a repetition ends DONE (R22). -/
def Slot.moreAfterDone (x : Slot) : Bool :=
  x.standing.elim false fun st => !st.stopRequested && (st.repeatCount = 0 || st.repetitions < st.repeatCount)

/-- The park order (R45): exactly the PARKED entries carry stamps, and the stamps are 1 up to their number. -/
def ParkOrder (s : State) : Prop :=
  (∀ e ∈ s.service.entries, e.state = .parked ↔ e.stamp.isSome = true) ∧
    (s.service.entries.filterMap (·.stamp)).Perm (List.range' 1 (parkedCount s.service.entries))

/-- A property that every step keeps. -/
def KeptByStep (inv : State → Prop) : Prop :=
  ∀ s t : State, inv s → step s = .next t → inv t

end Sys2Proof.Machine
end

