-- ==== Sys2Proof/WellFormed.lean ====
section
/-! DEFINITION. Well-formed commands: operands that the row's happening can carry. `exec` is total without it. -/

namespace Sys2Proof

open Sys2Proof.Machine

/-- The offsets of the eleven registers (12.1). -/
def registerOffsets : List Nat := [0x00, 0x04, 0x08, 0x0C, 0x10, 0x14, 0x18, 0x1C, 0x20, 0x24, 0x28]

/-- A frame head of a connection: source and destination differ (R55). -/
def FrameHead.wf (h : FrameHead) : Bool := h.src ≠ h.dst

/-- A roll call's head: both fields carry one ID (4.4). -/
def FrameHead.rollWf (h : FrameHead) : Bool := h.src = h.dst

/-- The bytes of one local read: 1 to 64 (R141). -/
def readBytesWf (bytes : List Byte) : Bool := 1 ≤ bytes.length ∧ bytes.length ≤ Config.blockBytes

/-- The operand ranges of each command; frames received by R55. -/
def Instr.wf : Instr → Bool
  | .join => true
  | .leave => true
  | .softReset => true
  | .peerReset => true
  | .post => true
  | .cancel => true
  | .stopStanding => true
  | .hold => true
  | .release => true
  | .takeNote => true
  | .busReset => true
  | .ringRestart => true
  | .undefinedCommandCode code => code.toNat = 0 ∨ 12 < code.toNat
  | .ringConsumerWrite _ => true
  | .eventWrite _ => true
  | .eventEnableWrite _ => true
  | .registerWrite offset _ => offset ∈ registerOffsets
  | .powerOn _ _ => true
  | .triggerEdge _ => true
  | .resetLineAsserted => true
  | .resetLineFalls => true
  | .resetPulseEnds => true
  | .holdLineDriven => true
  | .releaseGapExpires => true
  | .restGap => true
  | .turnGapExpires => true
  | .contend => true
  | .roundBegins => true
  | .roundWon => true
  | .roundLost => true
  | .roundNoWinner => true
  | .frameBadCrc bytes => Frame.decode bytes = none
  | .connectReceived h _ _ _ _ => h.wf
  | .acceptReceived h o => h.wf && (offsetField? o).isSome
  | .refuseReceived h r => h.wf && (RefuseReason.ofCode? r.toNat).isSome
  | .dataReceived h q p => h.wf && (seqField? q).isSome && (payloadField? p).isSome
  | .ackReceived h q => h.wf && (seqField? q).isSome
  | .nakReceived h q => h.wf && (seqField? q).isSome
  | .finishReceived h t => h.wf && (totalField? t).isSome
  | .disconnectReceived h r o => h.wf && (DisconnectReason.ofCode? r.toNat).isSome && (offsetField? o).isSome
  | .endReceived h => h.wf
  | .resumeReceived h o => h.wf && (offsetField? o).isSome
  | .withdrawReceived h r => h.wf && (WithdrawReason.ofCode? r.toNat).isSome
  | .abortReceived h r => h.wf && (AbortReason.ofCode? r.toNat).isSome
  | .rollcallReceived h _ => h.rollWf
  | .presentReceived h => h.rollWf
  | .frameSentGood => true
  | .collisionDetected => true
  | .sendData => true
  | .sendAck => true
  | .sendAbort => true
  | .holdLineReleased => true
  | .answerTimeout => true
  | .ackTimeout => true
  | .silenceTimeout => true
  | .closeTimeout => true
  | .resumeDeadlineExpires _ => true
  | .parkTimerExpires _ _ _ => true
  | .rollcallTimerExpires => true
  | .localTransactionEnds bytes => bytes.isEmpty || readBytesWf bytes
  | .localBusError => true
  | .descriptorLoadEnds bytes => readBytesWf bytes
  | .configLoadEnds bytes => readBytesWf bytes
  | .payloadReadEnds bytes => readBytesWf bytes
  | .payloadStoreEnds => true
  | .segmentEntryFetched bytes => readBytesWf bytes
  | .writerTakesRecord => true
  | .completionRecordWritten => true
  | .copyOutEnds => true
  | .drainComplete => true
  | .triggerLineFalls _ => true
  | .roundEnds => true

end Sys2Proof
end

