-- ==== Sys2Proof/Certificates/Slice0/Obligations.lean ====
section
/-! DEFINITION. The statements for the provers. `State.drainTest` after an effect is the drain test of R161, spelled out by
`DrainComplete`, and stands in every step that can make the drain complete (the model's choice, log 11); the frames that wait for this
station's turn (logs 13 and 28) and the Engine phase `answering` (log 8) are the model's own. `State.heardFrom`, `State.atTurn`,
`State.waiting`, `State.offConnection` and the other terms are in Safety.lean. -/

open Sys2Proof Sys2Proof.Machine

/-! ### The machine as a whole -/

/-- A step runs the command at the front of the queue on the station with the queue's rest; with an empty queue the station
idles (the model's choice, logs 1 and 3). -/
def Obligations.StepTakesFront : Prop :=
  (∀ (s : State) (c : Instr) (rest : List Instr), s.pending = c :: rest → step s = exec c { s with pending := rest }) ∧
    ∀ s : State, s.pending = [] → step s = .next s

/-- Every command completes in every state; a register write at an offset where the window has no register is the one
that faults (12.1; the fault is the model's, log 19).
No command touches the commands that wait (the model's queue, log 1). -/
def Obligations.EveryCommandCompletes : Prop :=
  (∀ (c : Instr) (s : State),
    (∃ t, exec c s = .next t) ∨
      ∃ offset value, c = .registerWrite offset value ∧ offset ∉ registerOffsets ∧ exec c s = .fault .noSuchRegister) ∧
  (∀ (c : Instr) (s t : State), exec c s = .next t → t.pending = s.pending)

/-- Power-on (R27, R28, R63, R75, R100, R129, R143, R162): every block at its reset value, the Trigger Unit at the present
levels, the view RESET when the reset line is asserted.
The machine right after reset is the power-on state with every line low (log 6) and nothing waiting: what the host and
the peers see of it. -/
def Obligations.PowerOnAndReset : Prop :=
  (∀ (levels : BitVec 4) (resetLine : Bool) (s : State), ∃ t, exec (.powerOn levels resetLine) s = .next t ∧
    t.station.state = .offline ∧ t.station.cause = .none ∧ t.station.settings = none ∧
    t.station.rollcallDue = false ∧ t.station.rollcallTimer = none ∧ t.station.collisionRun = 0 ∧
    (∀ p, t.peer p = ⟨.unknown, 0⟩) ∧
    t.bus.view = (if resetLine then .reset else .held) ∧ t.bus.holdsLine = false ∧ t.bus.drivesReset = false ∧
    t.bus.resetLine = resetLine ∧ t.bus.driving = none ∧ t.bus.received = none ∧ t.bus.outbox = [] ∧
    t.arb.spent = false ∧ t.arb.abstaining = false ∧ t.arb.entered = none ∧
    t.engine = .idle ∧ t.mover = .idle ∧
    (∀ i, (t.slot i).state = .free ∧ (t.slot i).gen = 0) ∧ t.sched.ready = [] ∧ t.sched.finished = [] ∧
    t.service.entries = [] ∧ t.service.queue = [] ∧
    (∀ w, (t.window w).enabled = false ∧ (t.window w).readSet = 0 ∧ (t.window w).writeSet = 0 ∧
      (t.window w).announce = false ∧ (t.window w).hold = .ready) ∧
    t.notes.stored = [] ∧ t.notes.reserved = false ∧ t.notes.copying = false ∧ t.triggers.levels = levels ∧
    t.port.current = none ∧ t.port.waiting = [] ∧ t.loader = none ∧ t.copier = none ∧
    t.writer.state = .running ∧ t.writer.record = none ∧
    t.host.argument = 0 ∧ t.host.result = ⟨.ok, 0, 0⟩ ∧ t.host.busy = false ∧ t.host.lost = false ∧
    t.host.event = 0 ∧ t.host.enable = 0 ∧ t.host.producer = 0 ∧ t.host.consumer = 0 ∧ t.host.faultAddress = 0 ∧
    t.irq = false ∧ t.pending = s.pending) ∧
  (exec (.powerOn 0 false) State.reset = .next State.reset ∧ State.reset.pending = [] ∧ State.reset.mem = [] ∧
    State.reset.readRegister 0x0C = some 0 ∧ State.reset.readRegister 0x10 = some 0 ∧
    State.reset.readRegister 0x24 = some 0 ∧ State.reset.irq = false)

/-! ### Invariants -/

/-- The invariants below hold right after reset. -/
def Obligations.InvariantsAtReset : Prop :=
  SlotLists State.reset ∧ OneSelected State.reset ∧ ServiceTable State.reset ∧ HoldStates State.reset ∧
    ParkOrder State.reset ∧ NotePlaces State.reset ∧ Credit State.reset ∧ MemoryForm State.reset ∧
    BufferEmpty State.reset ∧ ExchangeWork State.reset ∧ ProgressBound State.reset

/-- Every step keeps the ready list at exactly the QUEUED slots and the finished list at exactly the FINISHED ones, each
once (R7, R22). -/
def Obligations.SlotListsKept : Prop := KeptByStep SlotLists

/-- Every step keeps at most one slot SELECTED (R8).
The sender never has more than four frames unacknowledged (R84).
Local memory keeps its canonical form (log 5).
The received-frame buffer is empty between steps (R57; log 18). -/
def Obligations.SelectionCreditAndMemoryKept : Prop :=
  (KeptByStep OneSelected) ∧
  (KeptByStep Credit) ∧
  (KeptByStep MemoryForm) ∧
  (KeptByStep BufferEmpty)

/-- Every step keeps the Service Table within 8 entries with distinct keys, and the resume queue at exactly the READY and
WITHDRAW_DUE entries, each once (R31, R37). -/
def Obligations.ServiceTableKept : Prop := KeptByStep ServiceTable

/-- Every step keeps the hold states: no CONNECTED or RESUMING entry on a HELD window (R43), no READY entry on a window that
is not READY (R41). -/
def Obligations.HoldStatesKept : Prop := KeptByStep fun s => ServiceTable s ∧ HoldStates s

/-- Every step keeps the park order stamps at 1 up to the number of PARKED entries (R45). -/
def Obligations.ParkOrderKept : Prop := KeptByStep fun s => ServiceTable s ∧ ParkOrder s

/-- Notes held plus places reserved never exceed 16 (R121). -/
def Obligations.NotePlacesKept : Prop := KeptByStep NotePlaces

/-- Confirmed progress never exceeds the exchange length (R15, 3.3): every step keeps this bound in every slot and every service
entry, together with the invariant that the Engine's work lies within the exchange it was taken from. -/
def Obligations.ProgressBounded : Prop :=
  KeptByStep fun s => SlotLists s ∧ OneSelected s ∧ ServiceTable s ∧ ExchangeWork s ∧ ProgressBound s

/-- Confirmed progress never decreases within a repetition (R15, R22): a slot of a repetition in progress that a command
does not free has at least the progress it had. -/
def Obligations.ProgressNeverDecreases : Prop :=
  ∀ (c : Instr) (s t : State) (i : SlotId), exec c s = .next t →
    ((s.slot i).state = .queued ∨ (s.slot i).state = .selected ∨ (s.slot i).state = .active ∨
      (s.slot i).state = .disconnected) →
    (t.slot i).state ≠ .free → (s.slot i).progress ≤ (t.slot i).progress

/-- The frames of R55 in the layout of 13.4: a receiver reads back every well-formed frame that a station drives. -/
def Obligations.FrameRoundTrip : Prop := ∀ f : Frame, f.wf = true → Frame.decode f.encode = some f

/-! ### The command port and the host's commands (file 11, 12.1) -/

/-- While the port is BUSY, every command but SOFT_RESET is discarded and the command-lost flag is set (R166).
A code that names no command is taken and ends at once with BAD_ARGUMENT, detail 0 (R166). -/
def Obligations.CommandPort : Prop :=
  (∀ s : State, s.host.busy = true →
    (∀ c ∈ [Instr.join, .leave, .peerReset, .post, .cancel, .stopStanding, .hold, .release, .takeNote, .busReset,
        .ringRestart],
      exec c s = .next { s with host := { s.host with lost := true } }) ∧
      ∀ code : Byte, code ≠ 0x03 →
        exec (.undefinedCommandCode code) s = .next { s with host := { s.host with lost := true } }) ∧
  (∀ (s : State) (code : Byte), s.host.busy = false → code = 0 ∨ 12 < code.toNat →
    exec (.undefinedCommandCode code) s = .next { s with host := s.host.answered code .badArgument })

/-- JOIN (R154, R144): OFFLINE with an empty finished list it enters CONFIGURING with offline cause NONE, the port is BUSY and
the loader asks for the first bytes of the configuration block; otherwise NOT_OFFLINE.
POST (R1, R144): NOT_ONLINE outside ONLINE, TABLE_FULL with no FREE slot, otherwise the lowest-numbered FREE slot goes to
LOADING, the port stays BUSY and the loader asks for the first bytes of the descriptor. -/
def Obligations.LoadsBegin : Prop :=
  (∀ s : State, s.host.busy = false →
    (s.station.state = .offline ∧ s.sched.finished = [] →
      exec .join s = .next { s with
        station := { s.station with state := .configuring, cause := .none }
        host := { s.host.raised .stateChanged with busy := true, lost := false }
        loader := some ⟨.config, s.host.argument.toNat, [], false⟩
        port := s.port.asked .loader (.read s.host.argument.toNat (min 160 (64 - s.host.argument.toNat % 64))) }) ∧
      (¬ (s.station.state = .offline ∧ s.sched.finished = []) →
        exec .join s = .next { s with host := s.host.answered 0x01 .notOffline })) ∧
  (∀ s : State, s.host.busy = false →
    (s.station.state ≠ .online → exec .post s = .next { s with host := s.host.answered 0x05 .notOnline }) ∧
      (s.station.state = .online → (∀ i, (s.slot i).state ≠ .free) →
        exec .post s = .next { s with host := s.host.answered 0x05 .tableFull }) ∧
      (s.station.state = .online → ∀ i, (s.slot i).state = .free → (∀ j, j < i → (s.slot j).state ≠ .free) →
        exec .post s = .next { s with
          sched := s.sched.put i { Slot.blank (s.slot i).gen with state := .loading }
          host := { s.host with busy := true, lost := false }
          loader := some ⟨.descriptor i, s.host.argument.toNat, [], false⟩
          port := s.port.asked .loader (.read s.host.argument.toNat (min 32 (64 - s.host.argument.toNat % 64))) }))

/-- LEAVE (R160, R26, R48, R161). Outside ONLINE: NOT_ONLINE. In ONLINE the station enters LEAVING and the slots that have not
reached a peer end LEFT in the order of R26; PARKED entries become WITHDRAW_DUE in park order. The want of a SELECTED slot so
ended is gone (R69), and the call that the Engine makes for it is given up: at the end of a call frame under way, else at once
(R77). With no slot SELECTED and work left over, nothing else changes; with nothing left over, the drain is complete at once. -/
def Obligations.LeaveCommand : Prop :=
  ∀ s : State, s.host.busy = false →
    (s.station.state ≠ .online → exec .leave s = .next { s with host := s.host.answered 0x02 .notOnline }) ∧
      (s.station.state = .online → SlotLists s → OneSelected s → ServiceTable s → ParkOrder s →
        ∃ t, exec .leave s = .next t ∧
          (∀ i, t.slot i =
            if (s.slot i).state = .queued ∨ (s.slot i).state = .armed ∨
                ((s.slot i).state = .selected ∧ (s.slot i).callOut = false) then (s.slot i).ended .left
            else s.slot i) ∧
          t.sched.ready = [] ∧
          t.sched.finished = s.sched.finished ++ s.sched.ready ++
            slotIds.filter (fun i => (s.slot i).state = .armed) ++
            slotIds.filter (fun i => (s.slot i).state = .selected && !(s.slot i).callOut) ∧
          t.service.entries = s.service.entries.map (fun e =>
            if e.state = .parked then
              { e with state := .withdrawDue, withdrawReason := some .leaving, stamp := none, parkTimer := none }
            else e) ∧
          t.service.queue = s.service.queue ++ s.parkedKeys (fun _ => true) ∧
          (∀ i, (s.slot i).state = .selected → (s.slot i).callOut = false →
            let calls := s.engine.phase = .calling ∧ s.engine.purpose = .connect ∧ s.engine.tag.slot = i
            t.arb.entered = s.arb.entered.map (fun e => if e.want = .connect i then { e with gone := true } else e) ∧
            (¬ calls → t.engine = s.engine ∧ t.bus = s.bus) ∧
            (calls → s.bus.driving ≠ none →
              t.bus = s.bus ∧ t.engine = { s.engine with wantGone := true, answerTimer := none, closeTimer := none }) ∧
            (calls → s.bus.driving = none →
              t.engine = .idle ∧ t.bus = s.offConnection.bus ∧ t.arb.abstaining = s.offConnection.arb.abstaining)) ∧
          ((∀ i, (s.slot i).state ≠ .selected) →
            ¬ ((∀ i, (s.slot i).state = .free) ∧ s.service.entries = [] ∧ s.engine.phase = .idle) →
              t = { s with
                station := { s.station with state := .leaving }, sched := t.sched, service := t.service
                host := (s.host.raised .stateChanged).answered 0x02 .ok }) ∧
          ((∀ i, (s.slot i).state = .free) ∧ s.service.entries = [] ∧ s.engine.phase = .idle →
            t.station.state = .offline ∧ t.station.cause = .drained ∧
              t.host = (s.host.raised .stateChanged).answered 0x02 .ok))

/-- SOFT_RESET (R162, R27, R63, R143, R165) is taken in every state and in both port states: every block at its reset value,
generations kept, a transaction on the local bus left to complete without a requester (log 17), a reset pulse of this station
running on, no COMMAND_DONE. -/
def Obligations.SoftResetCommand : Prop :=
  ∀ s : State, ∃ t, exec .softReset s = .next t ∧
    t.station = { state := .offline, cause := .none, settings := none, rollcallDue := false, rollcallTimer := none,
                  collisionRun := 0, peers := Vector.replicate 16 ⟨.unknown, 0⟩ } ∧
    t.bus = { view := if s.bus.resetLine then .reset else .held, holdsLine := false, drivesReset := s.bus.drivesReset,
              resetLine := s.bus.resetLine, driving := none, received := none, outbox := [], turn := .none, restGapOpen := false } ∧
    t.arb = ⟨false, false, none⟩ ∧ t.engine = .idle ∧ t.mover = .idle ∧
    (∀ i, t.slot i = Slot.blank (s.slot i).gen) ∧ t.sched.ready = [] ∧ t.sched.finished = [] ∧
    t.service.entries = [] ∧ t.service.queue = [] ∧
    (∀ w, (t.window w).enabled = false ∧ (t.window w).readSet = 0 ∧ (t.window w).writeSet = 0 ∧
      (t.window w).announce = false ∧ (t.window w).hold = .ready) ∧
    t.notes = ⟨[], false, false⟩ ∧ t.port.current = none ∧ t.port.waiting = [] ∧
    t.port.orphans = s.port.orphans ++ (s.port.current.map (·.txn)).toList ∧
    t.loader = none ∧ t.copier = none ∧ t.writer = ⟨.running, none⟩ ∧
    t.host = { argument := 0, result := ⟨.ok, 0x03, 0⟩, busy := false, lost := false, event := 0, enable := 0,
               producer := 0, consumer := 0, faultAddress := 0 } ∧
    t.triggers = s.triggers ∧ t.mem = s.mem ∧ t.pending = s.pending

/-- CANCEL (R18, R6, R145): the tag matches a live exchange by its current generation, or by the posting generation of a
standing one. A SELECTED slot whose call is not out ends at once, its want is gone (R69), and the call that the Engine
makes for it is given up: at the end of a call frame under way, else at once (R77). A cancel that has to wait also asks
a standing exchange to stop (log 42). -/
def Obligations.CancelCommand : Prop :=
  ∀ s : State, s.host.busy = false →
    (15 < s.host.argument.toNat % 256 → exec .cancel s = .next { s with host := s.host.answered 0x06 .badArgument }) ∧
      ∀ i : SlotId, s.host.argument.toNat % 256 = i.val →
        let g := s.host.argument.toNat / 256 % 16
        let x := s.slot i
        let named := g = x.gen.val ∨ ∃ st, x.standing = some st ∧ g = st.postingGen.val
        let host := s.host.answered 0x06 .ok
        let requested : Slot := { x with
          cancelRequested := true, standing := x.standing.map fun st => { st with stopRequested := true } }
        let calls := s.engine.phase = .calling ∧ s.engine.purpose = .connect ∧ s.engine.tag.slot = i
        let gone (a : Arbitration) : Arbitration := { a with
          entered := a.entered.map (fun e => if e.want = .connect i then { e with gone := true } else e) }
        (¬ named ∨ x.state = .free ∨ x.state = .loading ∨ x.state = .finished →
          exec .cancel s = .next { s with host := s.host.answered 0x06 .unknownTag }) ∧
        (named → x.state = .queued ∨ x.state = .disconnected ∨ x.state = .armed →
          exec .cancel s = .next { s with sched := s.sched.ended i .cancelled, host := host }) ∧
        (named → x.state = .selected → x.callOut = true →
          exec .cancel s = .next { s with sched := s.sched.put i requested, host := host }) ∧
        (named → x.state = .selected → x.callOut = false →
          (¬ calls → exec .cancel s = .next { s with
            sched := s.sched.ended i .cancelled, arb := gone s.arb, host := host }) ∧
          (calls → s.bus.driving ≠ none → exec .cancel s = .next { s with
            sched := s.sched.ended i .cancelled, arb := gone s.arb, host := host
            engine := { s.engine with wantGone := true, answerTimer := none, closeTimer := none } }) ∧
          (calls → s.bus.driving = none → exec .cancel s = .next { s.offConnection with
            sched := s.sched.ended i .cancelled, arb := gone s.offConnection.arb, host := host })) ∧
        (named → x.state = .active →
          exec .cancel s = .next { s with
            sched := s.sched.put i requested
            mover := { s.mover with buffer := s.mover.buffer.map (fun b =>
              { b with discard := b.discard || (s.engine.role = .initiator && s.engine.resend?.isNone &&
                                                b.bytes.length < b.len) }) }
            host := host })

/-- STOP_STANDING (R137, R6), by the state of the slot; also OK for a repetition whose cancel waits (log 43). -/
def Obligations.StopStandingCommand : Prop :=
  ∀ s : State, s.host.busy = false →
    (15 < s.host.argument.toNat % 256 →
      exec .stopStanding s = .next { s with host := s.host.answered 0x07 .badArgument }) ∧
      ∀ i : SlotId, s.host.argument.toNat % 256 = i.val →
        let g := s.host.argument.toNat / 256 % 16
        let x := s.slot i
        ((x.standing = none ∨ x.state = .free ∨ x.state = .loading ∨ x.state = .finished) →
          exec .stopStanding s = .next { s with host := s.host.answered 0x07 .unknownTag }) ∧
        ∀ st, x.standing = some st →
          (g ≠ x.gen.val → g ≠ st.postingGen.val →
            exec .stopStanding s = .next { s with host := s.host.answered 0x07 .unknownTag }) ∧
          (g = x.gen.val ∨ g = st.postingGen.val → x.state = .armed →
            exec .stopStanding s = .next { s with
              sched := s.sched.ended i .cancelled, host := s.host.answered 0x07 .ok }) ∧
          (g = x.gen.val ∨ g = st.postingGen.val →
            x.state = .queued ∨ x.state = .selected ∨ x.state = .active ∨ x.state = .disconnected →
              exec .stopStanding s = .next { s with
                sched := s.sched.put i { x with standing := some { st with stopRequested := true } }
                host := s.host.answered 0x07 .ok })

/-- HOLD (R40, R41, R42, R43). On a READY window the READY entries leave the resume queue in queue order and are PARKED
with the next stamps, or, while LEAVING, WITHDRAW_DUE with reason LEAVING at the tail of the queue (R48); the window is
HOLDING while an entry on it is CONNECTED or RESUMING, else HELD with WINDOW_HELD. Nothing else changes unless the
Engine serves an entry of this window.
HOLD meets the Engine (R42): a READ target with nothing outstanding is at its point: it decides on DISCONNECT with
reason HELD and its progress, or on FINISH when the exchange is complete, and begins that frame when the turn is its own
and no other frame waits (CLOSING begins when the frame has been driven: log 13). A payload that is still being read is
given up with the decision (log 32). With a frame outstanding it has not reached its point. -/
def Obligations.HoldCommand : Prop :=
  (∀ s : State, s.host.busy = false →
    let taken := s.station.state = .joining ∨ s.station.state = .online ∨ s.station.state = .leaving
    let n := s.host.argument.toNat % 256
    (¬ taken → exec .hold s = .next { s with host := s.host.answered 0x08 .notOnline }) ∧
      (taken → 7 < n → exec .hold s = .next { s with host := s.host.answered 0x08 .badArgument }) ∧
      ∀ w : WindowId, w.val = n → taken →
        ((s.window w).enabled = false → exec .hold s = .next { s with host := s.host.answered 0x08 .badArgument }) ∧
        ((s.window w).enabled = true →
          ((s.window w).hold = .holding → exec .hold s = .next { s with host := s.host.answered 0x08 .ok }) ∧
          ((s.window w).hold = .held →
            exec .hold s = .next { s with host := (s.host.raised .windowHeld).answered 0x08 .ok }) ∧
          ((s.window w).hold = .ready → ServiceTable s →
            let kept : Bool := s.service.entries.any fun e =>
              e.window = w && (e.state = .connected || e.state = .resuming)
            let set (e : Entry) : Bool := e.window = w && e.state = .ready
            let keys := s.service.queue.filter fun k => s.service.entries.any fun e => e.key = k && set e
            ∃ t, exec .hold s = .next t ∧
              (t.window w).hold = (if kept then .holding else .held) ∧
              (s.station.state ≠ .leaving →
                t.service.queue = s.service.queue.filter (fun k => k ∉ keys) ∧
                  t.service.entries = s.service.entries.map fun e =>
                    if set e then
                      { e with state := .parked, parkTimer := some (64 * s.settings.parkLimit)
                               stamp := some (parkedCount s.service.entries + keys.idxOf e.key + 1) }
                    else e) ∧
              (s.station.state = .leaving → (∀ e ∈ s.service.entries, e.state ≠ .parked ∧ e.stamp = none) →
                t.service.queue = s.service.queue.filter (fun k => k ∉ keys) ++ keys ∧
                  t.service.entries = s.service.entries.map fun e =>
                    if set e then
                      { e with state := .withdrawDue, withdrawReason := some .leaving, stamp := none, parkTimer := none }
                    else e) ∧
              (s.engine.role = .initiator ∨ (∀ e ∈ s.service.entries, e.key = s.engine.key → e.window ≠ w) →
                t = { s with
                  service := { s.service with
                    windows := s.service.windows.set w { s.window w with hold := if kept then .holding else .held }
                    entries := t.service.entries, queue := t.service.queue }
                  host := (if kept then s.host else s.host.raised .windowHeld).answered 0x08 .ok })))) ∧
  (∀ (s : State) (e : Entry), s.host.busy = false → s.station.state = .online →
    s.entry? s.engine.key = some e → s.host.argument.toNat % 256 = e.window.val → (s.window e.window).enabled = true →
    (s.window e.window).hold = .ready → e.state = .connected → s.engine.role = .target → s.engine.phase = .sending →
    s.engine.abortDue = none → s.engine.closing = none →
    let complete := s.engine.length ≤ s.engine.sendPos
    let closing : ClosingFrame := if complete then .finish s.engine.length else .disconnect .held e.progress
    let body : Body := if complete then .finish s.engine.length else .disconnect .held e.progress
    let mine := s.bus.driving = none ∧ (s.bus.turn = .mine ∨ s.bus.turn = .either) ∧
      (s.bus.view = .held ∨ s.bus.view = .free)
    (s.engine.unacked = [] → complete ∨ s.engine.tenureCount < s.settings.tenureLimit →
      ∃ t, exec .hold s = .next t ∧ (t.window e.window).hold = .holding ∧
        t.engine = { s.engine with closing := some closing } ∧ t.mover.buffer = none ∧ t.port = s.port.giveUp ∧
        (mine → s.bus.outbox = [] → s.engine.ackDue = false →
          t.bus = { s.bus with driving := some (s.connFrame body) }) ∧
        (¬ mine → t.bus = s.bus)) ∧
    (s.engine.unacked ≠ [] → ∃ t, exec .hold s = .next t ∧ (t.window e.window).hold = .holding ∧
      t.engine = s.engine ∧ t.bus = s.bus))

/-- RELEASE (R40, R44): READY again, its PARKED entries to the tail of the resume queue in park order, the stamps of the
others lowered (R45). A READ target that the hold had stopped, short of its point, goes on (R42, R84): its mover asks
for the next payload. -/
def Obligations.ReleaseCommand : Prop :=
  ∀ s : State, s.host.busy = false →
    let taken := s.station.state = .joining ∨ s.station.state = .online ∨ s.station.state = .leaving
    let n := s.host.argument.toNat % 256
    (¬ taken → exec .release s = .next { s with host := s.host.answered 0x09 .notOnline }) ∧
      (taken → 7 < n → exec .release s = .next { s with host := s.host.answered 0x09 .badArgument }) ∧
      ∀ w : WindowId, w.val = n → taken →
        ((s.window w).enabled = false → exec .release s = .next { s with host := s.host.answered 0x09 .badArgument }) ∧
        ((s.window w).enabled = true → (s.window w).hold = .ready →
          exec .release s = .next { s with host := s.host.answered 0x09 .ok }) ∧
        ((s.window w).enabled = true → (s.window w).hold ≠ .ready → ServiceTable s → ParkOrder s →
          let moved (e : Entry) : Bool := e.window = w && e.state = .parked
          ∃ t, exec .release s = .next t ∧
            (t.window w).hold = .ready ∧
            t.service.queue = s.service.queue ++ s.parkedKeys (fun e => e.window = w) ∧
            t.service.entries = s.service.entries.map (fun e =>
              if moved e then { e with state := .ready, stamp := none, parkTimer := none }
              else { e with stamp := e.stamp.map fun n =>
                n - (s.service.entries.filter fun f => moved f && f.stamp.any (· < n)).length }) ∧
            (s.engine.phase ≠ .sending ∨ s.mover.buffer.isSome = true →
              t = { s with
                service := { windows := s.service.windows.set w { s.window w with hold := .ready }
                             entries := t.service.entries, queue := t.service.queue }
                host := s.host.answered 0x09 .ok }) ∧
            (∀ e, s.entry? s.engine.key = some e → e.window = w → e.state = .connected → s.engine.role = .target →
              s.engine.op = .read → s.engine.phase = .sending → s.engine.abortDue = none → s.engine.closing = none →
              s.engine.tenureCount < s.settings.tenureLimit → s.engine.unacked.length < 4 →
              s.engine.sendPos < s.engine.length → (∀ f ∈ s.engine.unacked, f.pos ≠ s.engine.sendPos) →
              s.mover.buffer = none → s.moverBusy = false →
              let n := min 256 (s.engine.length - s.engine.sendPos)
              let a := (s.window w).base + e.offset + s.engine.sendPos
              a < 4294967296 →
              t = { s with
                service := { windows := s.service.windows.set w { s.window w with hold := .ready }
                             entries := t.service.entries, queue := t.service.queue }
                mover := { s.mover with buffer := some ⟨s.engine.sendPos, n, [], false⟩ }
                port := s.port.asked .mover (.read a (min n (64 - a % 64)))
                host := s.host.answered 0x09 .ok }))

/-- TAKE_NOTE (R126): BAD_ARGUMENT past the top, even on an empty list (log 44), NO_NOTE on an
empty list, otherwise the head note is being copied, the port is BUSY, and the copier asks to write
its record.
COPY_OUT_ENDS (R127, R129): the head note leaves the list and the result is OK with the number of notes still stored; a
copy-out whose notes were cleared meanwhile gives OK with detail 0. -/
def Obligations.NoteCopiedOut : Prop :=
  (∀ s : State, s.host.busy = false →
    let a := s.host.argument.toNat
    (4294967296 < a + 48 → exec .takeNote s = .next { s with host := s.host.answered 0x0A .badArgument }) ∧
      (a + 48 ≤ 4294967296 → s.notes.stored = [] →
        exec .takeNote s = .next { s with host := s.host.answered 0x0A .noNote }) ∧
      (a + 48 ≤ 4294967296 → ∀ n rest, s.notes.stored = n :: rest → (copyOutBytesOf n).length = 48 →
        exec .takeNote s = .next { s with
          notes := { s.notes with copying := true }
          host := { s.host with busy := true, lost := false }
          copier := some ⟨a, copyOutBytesOf n, 0⟩
          port := s.port.asked .copier (.write a ((copyOutBytesOf n).take (min 48 (64 - a % 64)))) })) ∧
  (∀ (s : State) (a : Nat) (bytes : List Byte) (r : CopyOut),
    s.port.orphans = [] → s.port.current = some ⟨.copier, .write a bytes, .running⟩ → s.copier = some r →
    r.done + bytes.length = r.bytes.length → s.drained = false →
    let ended (notes : NoteQueue) (detail : Nat) : State := { s with
      copier := none, notes := notes, mem := Memory.write s.mem a bytes, port := s.port.grantNext
      host := { s.host.answered 0x0A .ok detail with lost := s.host.lost } }
    (∀ n rest, s.notes.stored = n :: rest → s.notes.copying = true →
      exec .copyOutEnds s = .next (ended { s.notes with stored := rest, copying := false } rest.length)) ∧
    (s.notes.copying = false → exec .copyOutEnds s = .next (ended s.notes 0)))

/-- BUS_RESET (R62): in JOINING, ONLINE and LEAVING this station drives the reset line; elsewhere NOT_ONLINE. The bus
reset that the line's change causes is the command RESET_LINE_ASSERTED that follows (log 31).
PEER_RESET (R164): in JOINING, ONLINE and LEAVING the named peer becomes UNKNOWN with count 0; the station's own ID and
an ID above 15 are BAD_ARGUMENT; elsewhere NOT_ONLINE. -/
def Obligations.BusAndPeerReset : Prop :=
  (∀ s : State, s.host.busy = false →
    (s.station.state = .joining ∨ s.station.state = .online ∨ s.station.state = .leaving →
      exec .busReset s = .next { s with
        bus := { s.bus with drivesReset := true }, host := s.host.answered 0x0B .ok }) ∧
      (s.station.state = .offline ∨ s.station.state = .configuring →
        exec .busReset s = .next { s with host := s.host.answered 0x0B .notOnline })) ∧
  (∀ s : State, s.host.busy = false →
    let n := s.host.argument.toNat % 256
    let taken := s.station.state = .joining ∨ s.station.state = .online ∨ s.station.state = .leaving
    (¬ taken → exec .peerReset s = .next { s with host := s.host.answered 0x04 .notOnline }) ∧
      (taken → 15 < n ∨ n = s.ownId.val →
        exec .peerReset s = .next { s with host := s.host.answered 0x04 .badArgument }) ∧
      (taken → ∀ p : StationId, p.val = n → p ≠ s.ownId →
        exec .peerReset s = .next { s with
          station := { s.station with peers := s.station.peers.set p ⟨.unknown, 0⟩ }
          host := s.host.answered 0x04 .ok }))

/-- RING_RESTART (R173): a SUSPENDED writer is RUNNING and writes its record again from the first byte into place P; a
RUNNING or STALLED one is not changed. The result is OK in every case. -/
def Obligations.RingRestartCommand : Prop :=
  ∀ s : State, s.host.busy = false →
    (s.writer.state ≠ .suspended → exec .ringRestart s = .next { s with host := s.host.answered 0x0C .ok }) ∧
      (s.writer.state = .suspended → ∀ r : Record, s.writer.record = some r → r.done = 0 → r.bytes.length = 32 →
        let a := s.settings.ringBase + 32 * s.host.producer
        a < 4294967296 →
          exec .ringRestart s = .next { s with
            writer := { s.writer with state := .running }
            port := s.port.asked .writer (.write a (r.bytes.take (min 32 (64 - a % 64))))
            host := s.host.answered 0x0C .ok }) ∧
      (s.writer.state = .suspended → s.writer.record = none →
        exec .ringRestart s = .next { s with
          writer := { s.writer with state := .running }, host := s.host.answered 0x0C .ok })

/-! ### Writes to the register window -/

/-- A write to RING_CONSUMER (R171, R170) moves C when the new value (bits 9:0) is below N and lies on the way from C to
P, and is ignored otherwise, as it is while no ring is configured; a STALLED writer with room again is RUNNING, and it
takes the head of the finished list with its own command WRITER_TAKES_RECORD (log 31). -/
def Obligations.RingConsumerMoves : Prop :=
  ∀ (s : State) (value : Word),
    let n := s.settings.ringSize
    let c := value.toNat % 1024
    (c < n → (c + n - s.host.consumer) % n ≤ (s.host.producer + n - s.host.consumer) % n →
      exec (.ringConsumerWrite value) s = .next { s with
        host := { s.host with consumer := c }
        writer := { s.writer with state :=
          if s.writer.state = .stalled ∧ (s.host.producer + n - c) % n + 1 < n then .running else s.writer.state } }) ∧
      (¬ (c < n ∧ (c + n - s.host.consumer) % n ≤ (s.host.producer + n - s.host.consumer) % n) →
        exec (.ringConsumerWrite value) s = .next s) ∧
      (s.station.settings = none → exec (.ringConsumerWrite value) s = .next s)

/-- EVENT (R168): a raise sets its flag and no other, whether or not it was set; a write clears every flag written as 1 and
leaves the others; of a raise and a clearing write, the later one decides. -/
def Obligations.EventFlags : Prop :=
  ∀ (s : State) (e f : Event) (value : Word),
    ((s.raise e).flag e = true) ∧ (f ≠ e → (s.raise e).flag f = s.flag f) ∧
      (∃ t, exec (.eventWrite value) s = .next t ∧ t = { s with host := { s.host with event := t.host.event } } ∧
        t.flag e = (s.flag e && !value.getLsbD e.bit) ∧ (t.raise e).flag e = true) ∧
      (∃ t, exec (.eventWrite value) (s.raise e) = .next t ∧
        (value.getLsbD e.bit = true → t.flag e = false) ∧ (value.getLsbD e.bit = false → t.flag e = true))

/-- EVENT_ENABLE and the interrupt line (R169): the host writes the register whole and reads it back, one enable for
each event; the line is asserted exactly while an event is both set and enabled; an enable does not affect whether a
flag is raised. Power-on and SOFT_RESET clear both registers and the line; no other command than a write to EVENT or
EVENT_ENABLE changes the enables or clears a flag. -/
def Obligations.EventEnable : Prop :=
  (∀ (s : State) (value : Word),
    (∃ t, exec (.eventEnableWrite value) s = .next t ∧ t = { s with host := { s.host with enable := t.host.enable } } ∧
      (∀ i < 11, t.host.enable.getLsbD i = value.getLsbD i) ∧ t.readRegister 0x14 = some (value &&& 0x7FF#32)) ∧
    (s.irq = true ↔ ∃ e : Event, s.flag e = true ∧ s.host.enable.getLsbD e.bit = true) ∧
    ∀ e : Event, (s.raise e).flag e = true) ∧
  (∀ (s t : State) (levels : BitVec 4) (resetLine : Bool),
    exec .softReset s = .next t ∨ exec (.powerOn levels resetLine) s = .next t →
      t.host.event = 0 ∧ t.host.enable = 0 ∧ t.irq = false) ∧
  (∀ (c : Instr) (s t : State), exec c s = .next t →
    (∀ levels resetLine, c ≠ .powerOn levels resetLine) → c ≠ .softReset → c ≠ .undefinedCommandCode 3 →
    (∀ v, c ≠ .eventWrite v ∧ c ≠ .eventEnableWrite v) → (∀ offset v, c ≠ .registerWrite offset v) →
      t.host.enable = s.host.enable ∧ ∀ e : Event, s.flag e = true → t.flag e = true)

/-- The register window (R165, 12.1). A write to ARGUMENT stores it and nothing else changes; a read-only register
ignores it. At the offset of a register that has a row of its own, the write is that row (log 19), and at COMMAND the
command that the code names (log 20). A read returns what the register holds: RESULT, STATUS with the state, cause,
writer state and the station ID, which is 0 while no configured values are in force, EVENT, EVENT_ENABLE, P, C, the
ring's base and size, 0 while none is configured, and FAULT_ADDRESS. -/
def Obligations.RegisterAccess : Prop :=
  (∀ (s : State) (value : Word),
    exec (.registerWrite 0x04 value) s = .next { s with host := { s.host with argument := value } } ∧
      (∀ offset ∈ [0x08, 0x0C, 0x18, 0x20, 0x24, 0x28], exec (.registerWrite offset value) s = .next s) ∧
      exec (.registerWrite 0x10 value) s = exec (.eventWrite value) s ∧
      exec (.registerWrite 0x14 value) s = exec (.eventEnableWrite value) s ∧
      exec (.registerWrite 0x1C value) s = exec (.ringConsumerWrite value) s ∧
      exec (.registerWrite 0x00 value) s = exec (.undefinedCommandCode (value.setWidth 8)) s) ∧
  (∀ s : State,
    let result : Nat := match s.host.result.code with
      | .ok => 0 | .notOnline => 1 | .notOffline => 2 | .badArgument => 3 | .tableFull => 4 | .unknownTag => 5
      | .noNote => 6 | .descriptorInvalid => 7 | .configInvalid => 8 | .localFault => 9
    let state : Nat := match s.station.state with
      | .offline => 0 | .configuring => 1 | .joining => 2 | .online => 3 | .leaving => 4
    let cause : Nat := match s.station.cause with
      | .none => 0 | .idConflict => 1 | .drained => 2
    let writer : Nat := match s.writer.state with
      | .running => 0 | .stalled => 1 | .suspended => 2
    s.readRegister 0x00 = some 0 ∧ s.readRegister 0x04 = some s.host.argument ∧
    (∃ w : Word, s.readRegister 0x08 = some w ∧
      w.toNat = result + 256 * s.host.result.command.toNat + 65536 * s.host.result.detail.toNat) ∧
    (∃ w : Word, s.readRegister 0x0C = some w ∧ w.getLsbD 0 = s.host.busy ∧ w.getLsbD 1 = s.host.lost ∧
      w.toNat / 4 % 8 = state ∧ w.toNat / 32 % 4 = cause ∧ w.toNat / 128 % 4 = writer ∧ w.toNat / 512 % 8 = 0 ∧
      w.toNat / 65536 = 0 ∧ (s.station.settings = none → w.toNat / 4096 % 16 = 0) ∧
      ∀ x, s.station.settings = some x → w.toNat / 4096 % 16 = x.id.val) ∧
    (∃ w : Word, s.readRegister 0x10 = some w ∧ ∀ i, w.getLsbD i = s.host.event.getLsbD i) ∧
    (∃ w : Word, s.readRegister 0x14 = some w ∧ ∀ i, w.getLsbD i = s.host.enable.getLsbD i) ∧
    (s.host.producer < 1024 → s.host.consumer < 1024 →
      (∃ w : Word, s.readRegister 0x18 = some w ∧ w.toNat = s.host.producer) ∧
      ∃ w : Word, s.readRegister 0x1C = some w ∧ w.toNat = s.host.consumer) ∧
    (s.station.settings = none → s.readRegister 0x20 = some 0 ∧ s.readRegister 0x24 = some 0) ∧
    (∀ x, s.station.settings = some x → x.ringBase < 4294967296 → x.ringSize ≤ 1024 →
      (∃ w : Word, s.readRegister 0x20 = some w ∧ w.toNat = x.ringBase) ∧
      ∃ w : Word, s.readRegister 0x24 = some w ∧ w.toNat = x.ringSize) ∧
    s.readRegister 0x28 = some s.host.faultAddress)

/-! ### Trigger lines (file 08) -/

/-- TRIGGER_EDGE (R130, R132, R133). A line that was low: every slot whose standing part names it acts by its state,
ARMED ones in ascending order, one whose peer is SILENT with the new tag and number (log 53); STANDING_OVERRUN once if at least
one cannot start. A line already high has no rising edge (R130), and the command changes nothing there (log 2). -/
def Obligations.TriggerEdgeTaken : Prop :=
  ∀ (s : State) (l : TriggerLine),
    (s.triggers.levels.getLsbD l.val = true → exec (.triggerEdge l) s = .next s) ∧
      (s.triggers.levels.getLsbD l.val = false → SlotLists s →
        let onLine (i : SlotId) : Bool := (s.slot i).standing.any fun st => st.line = l
        let starts (i : SlotId) : Bool := onLine i && (s.slot i).state = .armed
        let misses (i : SlotId) : Bool := onLine i &&
          ((s.slot i).state = .queued || (s.slot i).state = .selected || (s.slot i).state = .active ||
            (s.slot i).state = .disconnected || ((s.slot i).state = .finished && (s.slot i).moreToCome))
        let silent (i : SlotId) : Bool := (s.peer (s.slot i).peer).state = .silent
        ∃ t, exec (.triggerEdge l) s = .next t ∧
          t = { s with triggers := t.triggers, sched := t.sched
                       host := if slotIds.any misses then s.host.raised .standingOverrun else s.host } ∧
          (∀ m : TriggerLine, t.triggers.levels.getLsbD m.val = (m = l || s.triggers.levels.getLsbD m.val)) ∧
          t.sched.ready = s.sched.ready ++ slotIds.filter (fun i => starts i && !silent i) ∧
          t.sched.finished = s.sched.finished ++ slotIds.filter (fun i => starts i && silent i) ∧
          ∀ i, (starts i = false → misses i = false → t.slot i = s.slot i) ∧
            ∀ st, (s.slot i).standing = some st →
              (misses i = true → t.slot i =
                { s.slot i with standing := some { st with missed := if st.missed < 255 then st.missed + 1 else st.missed } }) ∧
              (starts i = true →
                let repetition : Slot := { s.slot i with
                  gen := (s.slot i).gen + 1, progress := 0, cursor := ⟨0, 0⟩, noAnswers := 0, busyRefusals := 0
                  collisions := 0, cancelRequested := false, callOut := false
                  standing := some { st with repetitions :=
                    if st.repeatCount = 0 ∧ st.repetitions = 65535 then 0 else st.repetitions + 1 } }
                t.slot i = if silent i then repetition.ended .peerSilent else { repetition with state := .queued }))

/-! ### The bus lines, the gaps and the rounds (files 03 and 04) -/

/-- The reset line going from not asserted to asserted is one bus reset (R60, R61): SELECTED, ACTIVE and DISCONNECTED
slots end BUS_RESET in ascending order, an ACTIVE one with an ABORT due as well (R25, R100; log 24); every service entry
is dropped and every HOLDING window is HELD (R47); flags and entered want cleared (R74); the Engine IDLE (R100);
reservations freed, stored notes kept (R128); a JOINING station's roll call starts anew (R157); every peer UNKNOWN
(R164). A LEAVING station may then be drained (R161, log 11). With the line already asserted there is no second bus
reset (R60), and the command changes nothing (log 2). -/
def Obligations.BusResetTaken : Prop :=
  ∀ s : State,
    (s.bus.resetLine = true → exec .resetLineAsserted s = .next s) ∧
      (s.bus.resetLine = false → SlotLists s →
        let ends (i : SlotId) : Bool :=
          (s.slot i).state = .selected || (s.slot i).state = .active || (s.slot i).state = .disconnected
        ∃ t : State, exec .resetLineAsserted s = .next t.drainTest ∧
          (∀ i, t.slot i = if ends i then (s.slot i).ended .busReset else s.slot i) ∧
          t.sched.ready = s.sched.ready ∧
          t.sched.finished = s.sched.finished ++ slotIds.filter ends ∧
          t.service.entries = [] ∧ t.service.queue = [] ∧
          (∀ w, t.window w =
            { s.window w with hold := if (s.window w).hold = .holding then .held else (s.window w).hold }) ∧
          t = { s with
            station := { s.station with
              peers := Vector.replicate 16 ⟨.unknown, 0⟩
              rollcallDue := if s.station.state = .joining then true else s.station.rollcallDue
              rollcallTimer := if s.station.state = .joining then none else s.station.rollcallTimer }
            bus := { s.bus with view := .reset, holdsLine := false, resetLine := true, driving := none
                                received := none, outbox := [], turn := .none, restGapOpen := false }
            arb := ⟨false, false, none⟩
            engine := .idle
            mover := .idle
            port := s.port.giveUp
            notes := { s.notes with reserved := false }
            sched := t.sched
            service := t.service
            host := t.host } ∧
          t.host = { s.host with event := t.host.event } ∧
          ∀ e : Event, t.flag e = (s.flag e || e = .busResetSeen || (e = .serviceDropped && s.service.entries ≠ []) ||
            (e = .windowHeld && windowIds.any fun w => (s.window w).hold = .holding)))

/-- A line that falls (R50, R60, R130): the trigger detector records the low level and reports nothing; the end of this
station's pulse changes only whether it drives the line; the reset line cannot fall while this station drives it, nor while it
is not asserted (log 2), and when it falls the view RESET becomes FREE.
The view of the bus (R50, R52, R54, R72): each happening moves it as the table gives, and from no other view (log
2). A station that may contend and has a want joins a round that another begins, any other stays out of it; the
beginning of a round ends the release abstention; a round without a winner leaves FREE, and an entered want is cleared
there too (log 46). The station here answers no connection.
The gaps (R52, R53, R71, R72): at most one rest gap in a stretch of FREE, and it clears both flags; after a turn gap
either party may begin, and the oldest frame that waited goes out, or the closing frame that is due when none waits
(R92), but while an ABORT is due only Station Control's (R20). A gap that is not open does not expire (log 2). -/
def Obligations.LinesGapsAndView : Prop :=
  (∀ s : State,
    (∀ l : TriggerLine, ∃ t, exec (.triggerLineFalls l) s = .next t ∧ t = { s with triggers := t.triggers } ∧
      ∀ m : TriggerLine, t.triggers.levels.getLsbD m.val = (m ≠ l && s.triggers.levels.getLsbD m.val)) ∧
      exec .resetPulseEnds s = .next { s with bus := { s.bus with drivesReset := false } } ∧
      (s.bus.resetLine = true → s.bus.drivesReset = false →
        exec .resetLineFalls s = .next { s with bus := { s.bus with
          resetLine := false
          view := if s.bus.view = .reset then .free else s.bus.view
          restGapOpen := if s.bus.view = .reset then true else s.bus.restGapOpen } }) ∧
      (s.bus.resetLine = false ∨ s.bus.drivesReset = true → exec .resetLineFalls s = .next s)) ∧
  (∀ s : State, (s.engine.phase = .idle ∨ s.engine.busRole = .holder) → s.drained = false →
    let held := { s.bus with view := .held, restGapOpen := false, turn := .none }
    let free := { s.bus with view := .free, restGapOpen := true }
    (s.bus.view = .free →
      (exec .contend s ≠ .next s → exec .roundBegins s = exec .contend s) ∧
      (exec .contend s = .next s → exec .roundBegins s = .next { s with
        bus := { s.bus with view := .contending, restGapOpen := false }, arb := { s.arb with abstaining := false } }) ∧
      exec .holdLineDriven s = .next { s with bus := held }) ∧
    (s.bus.view = .contending →
      exec .roundNoWinner s = .next { s with bus := free, arb := { s.arb with entered := none } } ∧
      (s.arb.entered = none → exec .roundEnds s = .next { s with bus := held } ∧ exec .roundLost s = .next s) ∧
      (s.arb.entered.isSome = true → exec .roundEnds s = .next s)) ∧
    (s.bus.view = .held → s.bus.holdsLine = false → exec .releaseGapExpires s = .next { s with bus := free }) ∧
    (s.bus.view ≠ .free → exec .roundBegins s = .next s ∧ exec .holdLineDriven s = .next s) ∧
    (s.bus.view ≠ .contending → exec .roundEnds s = .next s ∧ exec .roundNoWinner s = .next s ∧
      exec .roundLost s = .next s) ∧
    (s.bus.view ≠ .held ∨ s.bus.holdsLine = true → exec .releaseGapExpires s = .next s)) ∧
  (∀ s : State,
    let x : State := { s with bus := { s.bus with turn := .either } }
    let open' := s.bus.view = .held ∨ s.bus.view = .free
    (s.bus.view = .free → s.bus.restGapOpen = true →
      exec .restGap s = .next { s with
        bus := { s.bus with restGapOpen := false }, arb := { s.arb with spent := false, abstaining := false } }) ∧
    (s.bus.view ≠ .free ∨ s.bus.restGapOpen = false → exec .restGap s = .next s) ∧
    (s.bus.driving = none → s.bus.turn = .mine ∨ s.bus.turn = .theirs →
      (¬ open' → exec .turnGapExpires s = .next x) ∧
      (open' → s.bus.outbox = [] →
        exec .turnGapExpires s = .next { x with bus := { x.bus with driving := s.closingDue? } }) ∧
      (open' → ∀ f rest, s.bus.outbox = f :: rest →
        (f.body.isRollCall = true ∨ s.abortCause? = none →
          exec .turnGapExpires s = .next { x with bus := { x.bus with driving := some f, outbox := rest } }) ∧
        (f.body.isRollCall = false → s.abortCause? ≠ none → exec .turnGapExpires s = .next x))) ∧
    (s.bus.driving ≠ none ∨ s.bus.turn = .none ∨ s.bus.turn = .either → exec .turnGapExpires s = .next s))

/-- ROUND_LOST (R70): the entered want is cleared and neither flag changes; its owner keeps its object, the SELECTED
slot stays SELECTED with its call-out flag clear, the taken entry stays taken, the roll call stays outstanding. The view
is HELD, and at the next FREE the station contends again, neither spent nor abstaining on account of that round: for the
same want, or for an entry that joined the resume queue while it waited, ahead of its SELECTED slot. -/
def Obligations.RoundLost : Prop :=
  ∀ (s : State) (e : Entered), s.bus.view = .contending → s.arb.entered = some e →
    let t : State := { s with
      bus := { s.bus with view := .held, restGapOpen := false, turn := .none }, arb := { s.arb with entered := none } }
    let u : State := { t with bus := { t.bus with view := .free, restGapOpen := true } }
    let again : Prop := exec .contend u = .next { u with
      bus := { u.bus with view := .contending, restGapOpen := false }, arb := ⟨s.arb.spent, false, some ⟨e.want, false⟩⟩ }
    let may := s.arb.abstaining = false ∧ s.engine.phase = .idle ∧ s.bus.driving = none
    exec .roundLost s = .next t ∧
    (may → s.station.state = .joining → s.station.rollcallDue = true → e.want = .rollcall → again) ∧
    (may → s.station.state = .online ∨ s.station.state = .leaving → ∀ n ∈ s.service.entries,
      (∀ f ∈ s.service.entries, f.state = .resuming ∨ f.state = .withdrawing → f = n) →
      (n.state = .resuming → e.want = .resume n.key → again) ∧
      (n.state = .withdrawing → e.want = .withdraw n.key → again)) ∧
    (may → s.station.state = .online → s.arb.spent = false → s.service.queue = [] → OneSelected s →
      (∀ f ∈ s.service.entries, f.state ≠ .resuming ∧ f.state ≠ .withdrawing) →
      ∀ i, (s.slot i).state = .selected → (s.slot i).callOut = false → e.want = .connect i → again) ∧
    (may → s.station.state = .online ∨ s.station.state = .leaving → ∀ (x : Service) (k : Key) (rest : List Key) (n : Entry),
      x.queue = k :: rest → ({ u with service := x } : State).entry? k = some n →
      (∀ f ∈ x.entries, f.state ≠ .resuming ∧ f.state ≠ .withdrawing) →
      ∃ v, exec .contend { u with service := x } = .next v ∧ v.bus.view = .contending ∧
        v.arb.entered = some ⟨if n.state = .withdrawDue then .withdraw k else .resume k, false⟩)

/-- CONTEND (R64, R65, R66, R8, R37): with every condition of R64 the station enters the round with the first want of
R65: the roll call in JOINING, the taken entry, the head of the resume queue, which is taken now, the SELECTED slot, or
the head of the ready list, which is SELECTED now. A LEAVING station has no Open want. (A frame still being driven keeps
it out as well: log 28.)
The rank a contender signals (R67): its station ID in Open class, 16 plus the station ID in Resume class; in JOINING the
claimed ID (R156). -/
def Obligations.ContendPicksWant : Prop :=
  (∀ s : State,
    let may := (s.station.state = .joining ∨ s.station.state = .online ∨ s.station.state = .leaving) ∧
      s.bus.view = .free ∧ s.arb.abstaining = false ∧ s.engine.phase = .idle ∧ s.bus.driving = none
    let bus := { s.bus with view := .contending, restGapOpen := false }
    let arb (w : Want) : Arbitration := ⟨s.arb.spent, false, some ⟨w, false⟩⟩
    let untaken := ∀ e ∈ s.service.entries, e.state ≠ .resuming ∧ e.state ≠ .withdrawing
    (¬ may → exec .contend s = .next s) ∧
    (may → s.station.state = .joining →
      (s.station.rollcallDue = true → exec .contend s = .next { s with bus := bus, arb := arb .rollcall }) ∧
      (s.station.rollcallDue = false → exec .contend s = .next s)) ∧
    (may → s.station.state ≠ .joining →
      (∀ e ∈ s.service.entries, (∀ f ∈ s.service.entries, f.state = .resuming ∨ f.state = .withdrawing → f = e) →
        (e.state = .resuming → exec .contend s = .next { s with bus := bus, arb := arb (.resume e.key) }) ∧
        (e.state = .withdrawing → exec .contend s = .next { s with bus := bus, arb := arb (.withdraw e.key) })) ∧
      (untaken → ∀ k rest e, s.service.queue = k :: rest → s.entry? k = some e →
        (e.state = .ready → exec .contend s = .next { s with
          bus := bus, arb := arb (.resume k)
          service := { s.service with
            queue := rest
            entries := s.service.entries.map fun f => if f.key = k then { f with state := .resuming } else f } }) ∧
        (e.state = .withdrawDue → exec .contend s = .next { s with
          bus := bus, arb := arb (.withdraw k)
          service := { s.service with
            queue := rest
            entries := s.service.entries.map fun f => if f.key = k then { f with state := .withdrawing } else f } })) ∧
      (untaken → s.service.queue = [] →
        (s.arb.spent = true ∨ s.station.state = .leaving → exec .contend s = .next s) ∧
        (s.arb.spent = false → s.station.state = .online → OneSelected s →
          (∀ i, (s.slot i).state = .selected → (s.slot i).callOut = false →
            exec .contend s = .next { s with bus := bus, arb := arb (.connect i) }) ∧
          ((∀ i, (s.slot i).state ≠ .selected) →
            (∀ i rest, s.sched.ready = i :: rest →
              exec .contend s = .next { s with
                bus := bus, arb := arb (.connect i)
                sched := { s.sched.put i { s.slot i with state := .selected, callOut := false } with ready := rest } }) ∧
            (s.sched.ready = [] → exec .contend s = .next s)))))) ∧
  (∀ (s : State) (e : Entered), s.arb.entered = some e →
    s.rank? = some (match e.want with
      | .rollcall => s.ownId.val
      | .connect _ => s.ownId.val
      | .resume _ => 16 + s.ownId.val
      | .withdraw _ => 16 + s.ownId.val))

/-- ROUND_WON (R68, R69, R71, R72, R77, R156): the spent flag is set by an Open round; the want is handed over and its call
frame goes out; a want that is gone has the hold line released at once with no frame. -/
def Obligations.RoundWonHandsOver : Prop :=
  ∀ (s : State) (e : Entered), s.bus.view = .contending → s.arb.entered = some e →
    let bus := { s.bus with view := .held, holdsLine := true, turn := .either }
    let opened : Arbitration := { s.arb with spent := true, entered := none }
    let resumed : Arbitration := { s.arb with entered := none }
    let call (role : ExchangeRole) (k : Key) (p : Purpose) (op : Operation) (length : Nat) : Engine :=
      { Engine.idle with phase := .calling, busRole := .holder, role := role, partner := k.initiator, tag := k.tag
                         purpose := p, op := op, length := length }
    let frame (dst : StationId) (tag : Tag) (b : Body) : Option Frame := some ⟨⟨s.ownId, dst, tag.slot, tag.gen⟩, b⟩
    let openRound : Bool := match e.want with
      | .rollcall => true
      | .connect _ => true
      | .resume _ => false
      | .withdraw _ => false
    (e.gone = true → exec .roundWon s = .next { s with
      bus := { bus with holdsLine := false }
      arb := { spent := s.arb.spent || openRound, abstaining := true, entered := none } }) ∧
    (e.gone = false →
      (e.want = .rollcall → exec .roundWon s = .next { s with
        bus := { bus with driving := frame s.ownId ⟨0, 0⟩ (.rollcall s.settings.serial) }, arb := opened }) ∧
      (∀ i, e.want = .connect i →
        let x := s.slot i
        let body : Body := .connect x.op.code (BitVec.ofNat 8 (if x.op = .note then 0 else x.window.val))
          (BitVec.ofNat 32 (if x.op = .note then 0 else x.offset)) (BitVec.ofNat 32 x.length)
        exec .roundWon s = .next { s with
          bus := { bus with driving := frame x.peer ⟨i, x.gen⟩ body }
          arb := opened
          engine := call .initiator ⟨x.peer, ⟨i, x.gen⟩⟩ .connect x.op x.length }) ∧
      (∀ k n, s.entry? k = some n →
        (e.want = .resume k → exec .roundWon s = .next { s with
          bus := { bus with driving := frame k.initiator k.tag (.resume n.progress) }
          arb := resumed
          engine := call .target k .resume n.op n.length }) ∧
        (∀ r, e.want = .withdraw k → n.withdrawReason = some r → exec .roundWon s = .next { s with
          bus := { bus with driving := frame k.initiator k.tag (.withdraw r) }
          arb := resumed
          engine := call .target k .withdraw n.op n.length })))

/-! ### Frames received (files 02, 05, 06, 07, 10) -/

/-- A station that is OFFLINE or CONFIGURING takes no frame, and no station takes one while its view is neither HELD nor
FREE (R57, R58). A frame that is delivered but belongs to no open connection of a busy Engine only reports its source
(R82, R83); the frames of this station that wait then go out if it may drive (R53, log 28), and the drain test follows
(R161, log 11).
Bytes whose CRC is wrong, or that are not a well-formed frame, are discarded as if never received (R55, R56). -/
def Obligations.FramesDiscarded : Prop :=
  (∀ (s : State) (h : FrameHead) (op win q r : Byte) (o n : Word) (p : List Byte) (sn : BitVec 16),
    let connection := [Instr.connectReceived h op win o n, .acceptReceived h o, .refuseReceived h r,
      .dataReceived h q p, .ackReceived h q, .nakReceived h q, .finishReceived h n, .disconnectReceived h r o,
      .endReceived h, .resumeReceived h o, .withdrawReceived h r, .abortReceived h r]
    let reported : State := { s with
      station := s.station.heard h.src, bus := { s.bus with received := none, driving := none, outbox := s.waiting } }
    (BufferEmpty s →
      s.station.state = .offline ∨ s.station.state = .configuring ∨ (s.bus.view ≠ .held ∧ s.bus.view ≠ .free) →
      ∀ c ∈ connection ++ [.rollcallReceived h sn, .presentReceived h], exec c s = .next s) ∧
    (s.delivers h → s.engine.phase ≠ .idle → s.engine.hears h = false →
      ∀ c ∈ connection, c.wf = true → exec c s = .next reported.pump.drainTest)) ∧
  (∀ (bytes : List Byte) (s : State), Frame.decode bytes = none → exec (.frameBadCrc bytes) s = .next s)

/-- CONNECT taken by an IDLE Engine (R30 to R34, R121, R124): the checks in their order; a refusal changes no table; a NOTE that
passes reserves a place and is accepted; a READ or WRITE that passes makes an entry, CONNECTED and accepted on a READY window,
else PARKED and answered DISCONNECT(HELD), whose first end makes the Engine CLOSING (log 13). An entry with the same key is
dropped first (R31). The answer goes out after the frames that wait (R53). -/
def Obligations.ConnectAnswered : Prop :=
  ∀ (s : State) (h : FrameHead) (operation window : Byte) (offset length : Word),
    s.delivers h → s.engine.phase = .idle →
    let c := Instr.connectReceived h operation window offset length
    let k : Key := ⟨h.src, ⟨h.slot, h.gen⟩⟩
    let op := operation.toNat
    let o := offset.toNat
    let n := length.toNat
    let place := s.notes.stored.length + s.notes.reserved.toNat +
      (s.service.entries.filter (·.reservation)).length < 16
    let bad := op = 0 ∨ 3 < op ∨ n = 0 ∨ (op = 3 ∧ 32 < n) ∨ (op ≠ 3 ∧ 7 < window.toNat)
    let answering (x : Operation) : Engine :=
      { Engine.idle with phase := .answering, busRole := .answering, role := .target, partner := h.src
                         tag := ⟨h.slot, h.gen⟩, purpose := .connect, op := x, length := n }
    let taken (x : Operation) : State := { s with station := s.station.heard h.src, engine := answering x }
    let sends (b : Body) : List Frame := s.waiting ++ [⟨⟨s.ownId, h.src, h.slot, h.gen⟩, b⟩]
    let refused (q : RefuseReason) : Prop := ∃ x, exec c s = .next ((taken x).atTurn (sends (.refuse q)))
    (s.entry? k = none →
      (s.station.state = .leaving → refused .leaving) ∧
      (s.station.state = .online → bad → refused .badRequest) ∧
      (s.station.state = .online → ¬ bad → op = 3 →
        (s.settings.noteSenders.getLsbD h.src.val = false → refused .denied) ∧
        (s.settings.noteSenders.getLsbD h.src.val = true → ¬ place → refused .notesFull) ∧
        (s.settings.noteSenders.getLsbD h.src.val = true → place →
          exec c s = .next (({ taken .note with
            notes := { s.notes with reserved := true } } : State).atTurn (sends (.accept 0))))) ∧
      (s.station.state = .online → ¬ bad → op ≠ 3 → ∀ w : WindowId, w.val = window.toNat →
        let x := s.window w
        let inSet := (if op = 1 then x.readSet else x.writeSet).getLsbD h.src.val
        let operation : Operation := if op = 1 then .read else .write
        let entry : Entry :=
          { key := k, op := operation, window := w, offset := o, length := n, progress := 0, state := .connected
            parkTimer := none, noAnswers := 0, reservation := op = 2 && x.announce, withdrawReason := none
            stamp := none }
        let verdict : Option RefuseReason :=
          if x.enabled = false then some .noWindow else if inSet = false then some .denied
          else if x.size < o + n then some .range else if 8 ≤ s.service.entries.length then some .tableFull
          else if op = 2 ∧ x.announce = true ∧ ¬ place then some .notesFull else none
        (∀ q, verdict = some q → refused q) ∧
        (verdict = none → x.hold = .ready →
          exec c s = .next (({ taken operation with
            service := { s.service with entries := s.service.entries ++ [entry] } } : State).atTurn (sends (.accept 0)))) ∧
        (verdict = none → x.hold ≠ .ready →
          exec c s = .next (({ taken operation with
            engine := { answering operation with closing := some (.disconnect .held 0) }
            mover := { s.mover with buffer := none, stores := [], fetch := none }
            port := s.port.giveUp
            service := { s.service with entries := s.service.entries ++
              [{ entry with state := .parked, parkTimer := some (64 * s.settings.parkLimit)
                            stamp := some (parkedCount s.service.entries + 1) }] } } : State).atTurn s.waiting)))) ∧
    (∀ e, s.entry? k = some e →
      ∃ t, exec c s = .next t ∧ t.flag .serviceDropped = true ∧
        ∀ f ∈ t.service.entries, f.key = k →
          f.progress = 0 ∧ f.noAnswers = 0 ∧ (f.state = .connected ∨ f.state = .parked))

/-- ACCEPT of this station's CONNECT (R80, R10, R83): the slot is ACTIVE and the tenure begins at 0; in a READ the
silence timer runs, in a WRITE or NOTE from a DIRECT local side the mover asks for the first payload (R145), once a
discarded transaction of its own has ended (R141).
ACCEPT of this station's RESUME (R81, R38, R83, R97): with the entry's progress and a READY window the entry is
CONNECTED and the tenure begins at that offset; with a HOLDING window the Engine is in CLOSING as closer,
DISCONNECT(HELD) goes out at once and the entry is set aside (log 10); with another offset ABORT(LINK) is due and the
Engine stays CALLING (log 41). -/
def Obligations.CallAccepted : Prop :=
  (∀ (s : State) (h : FrameHead) (offset : Word),
    let i := s.engine.tag.slot
    let x := s.slot i
    s.delivers h → s.engine.hears h = true → s.engine.phase = .calling → s.engine.answerTimer.isSome = true →
    s.engine.purpose = .connect → s.engine.role = .initiator → x.state = .selected →
    offset.toNat ≤ Config.maxLength →
      ∃ t, exec (.acceptReceived h offset) s = .next t ∧
        t = ({ s.heardFrom h with sched := t.sched, engine := t.engine, mover := t.mover, port := t.port } : State).atTurn
          s.waiting ∧
        t.sched = s.sched.put i { x with state := .active, deadline := none } ∧
        t.engine = { s.engine with
          phase := if s.engine.op = .read then .receiving else .sending
          sendPos := 0, nextSeq := 0, unacked := [], expectedSeq := 0, writtenSeq := none, gapReported := false
          ackDue := false, tenureCount := 0, point := none, closing := none, closeRetries := 0, endSent := false
          answerTimer := none, ackTimer := none, closeTimer := none
          silenceTimer := if s.engine.op = .read then some (4 * s.settings.ackTime) else none
          abortDue := t.engine.abortDue } ∧
        (s.engine.op = .read → t.engine.abortDue = s.engine.abortDue ∧ t.port = s.port.giveUp ∧
          t.mover = { buffer := none, stores := [], fetch := none, working := x.cursor, cache := none }) ∧
        (s.engine.op ≠ .read → x.cancelRequested = false → x.form = .direct → 0 < s.engine.length →
          s.engine.abortDue = none → x.localAddr < 4294967296 →
          let n := min 256 s.engine.length
          t.engine.abortDue = none ∧
          t.mover = { buffer := some ⟨0, n, [], false⟩, stores := [], fetch := none, working := x.cursor, cache := none } ∧
          let busy := ∃ g, s.port.current = some g ∧ (g.who = .mover ∨ g.who = .walker) ∧ g.state ≠ .ended
          (busy → t.port = s.port.giveUp) ∧
          (¬ busy → t.port = s.port.giveUp.asked .mover (.read x.localAddr (min n (64 - x.localAddr % 64)))))) ∧
  (∀ (s : State) (h : FrameHead) (offset : Word) (e : Entry),
    let k := s.engine.key
    s.delivers h → s.engine.hears h = true → s.engine.phase = .calling → s.engine.answerTimer.isSome = true →
    s.engine.purpose = .resume → s.engine.role = .target → s.engine.op = e.op → e.op = .read ∨ e.op = .write →
    s.engine.length = e.length → s.entry? k = some e → e.state = .resuming → e.progress < e.length →
    0 < s.settings.tenureLimit → s.engine.abortDue = none → offset.toNat ≤ Config.maxLength → ServiceTable s →
      (offset.toNat ≠ e.progress →
        exec (.acceptReceived h offset) s = .next (({ s.heardFrom h with
          engine := { (s.heardFrom h).engine with answerTimer := none, abortDue := some (.link .offset) } } : State).atTurn
          s.waiting)) ∧
      (offset.toNat = e.progress → (s.window e.window).hold = .ready →
        ∃ t, exec (.acceptReceived h offset) s = .next t ∧
          t = ({ s.heardFrom h with service := t.service, engine := t.engine, mover := t.mover, port := t.port } : State).atTurn
            s.waiting ∧
          t.service = { s.service with entries := s.service.entries.map fun f =>
            if f.key = k then { f with state := .connected, noAnswers := 0 } else f } ∧
          t.engine.phase = (if e.op = .read then .sending else .receiving) ∧ t.engine.sendPos = e.progress ∧
          t.engine.nextSeq = 0 ∧ t.engine.unacked = [] ∧ t.engine.expectedSeq = 0 ∧ t.engine.writtenSeq = none ∧
          t.engine.gapReported = false ∧ t.engine.tenureCount = 0 ∧ t.engine.answerTimer = none ∧
          t.engine.silenceTimer = (if e.op = .read then none else some (4 * s.settings.ackTime))) ∧
      (offset.toNat = e.progress → (s.window e.window).hold = .holding → s.station.state = .online →
        ∃ t, exec (.acceptReceived h offset) s = .next t ∧
          t = ({ s.heardFrom h with
            service := t.service, host := t.host
            engine := { (s.heardFrom h).engine with
              phase := .closing, closing := some (.disconnect .held e.progress), closeRetries := 0, ackDue := false
              answerTimer := none, ackTimer := none, silenceTimer := none } } : State).atTurn
            (s.waiting ++ [s.connFrame (.disconnect .held e.progress)]) ∧
          t.service.queue = s.service.queue ∧
          (t.service.entries = s.service.entries.map fun f =>
            if f.key = k then
              { f with state := .parked, noAnswers := 0, parkTimer := some (64 * s.settings.parkLimit)
                       stamp := some (parkedCount s.service.entries + 1) }
            else f) ∧
          let kept := ∃ f ∈ s.service.entries, f.key ≠ k ∧ f.window = e.window ∧ (f.state = .connected ∨ f.state = .resuming)
          (kept → t.service.windows = s.service.windows ∧ t.host = s.host) ∧
          (¬ kept → t.host = s.host.raised .windowHeld ∧
            t.service.windows = s.service.windows.set e.window { s.window e.window with hold := .held })))

/-- REFUSE of this station's call (R80, R81): the holder releases. CONNECT: cancelled when the cancel-requested flag is
set (R19); a busy refusal requeues the slot, or ends it at the eighth, or LEFT while LEAVING (R11, R26); any other
reason ends it (R12). RESUME: the entry is dropped (R38). WITHDRAW: it is retired (R39). The drain test follows (R161,
log 11). -/
def Obligations.CallRefused : Prop :=
  ∀ (s : State) (h : FrameHead) (reason : RefuseReason),
    s.delivers h → s.engine.hears h = true → s.engine.phase = .calling → s.engine.answerTimer.isSome = true →
    s.engine.busRole = .holder →
    let c := Instr.refuseReceived h reason.code
    let i := s.engine.tag.slot
    let x := s.slot i
    let k := s.engine.key
    let left := (s.heardFrom h).offConnection
    let control := s.waiting.filter Frame.ofStationControl
    let busy := reason = .tableFull ∨ reason = .notesFull
    let counted := { x with busyRefusals := x.busyRefusals + 1 }
    let settled :=
      if x.cancelRequested then s.sched.ended i .cancelled
      else if ¬ busy then s.sched.ended i (.refused reason)
      else if 8 ≤ x.busyRefusals + 1 then (s.sched.put i counted).ended i (.refused reason)
      else if s.station.state = .leaving then (s.sched.put i counted).ended i .left
      else s.sched.queued i counted
    (s.engine.purpose = .connect → x.state = .selected →
      exec c s = .next (({ left with sched := settled } : State).atTurn control)) ∧
    (∀ e, s.entry? k = some e → e.stamp = none → s.arb.entered = none →
      (s.engine.purpose = .resume → e.state = .resuming →
        exec c s = .next ((({ left.afterEntry k e.window with
          host := (left.afterEntry k e.window).host.raised .serviceDropped } : State).atTurn control).drainTest)) ∧
      (s.engine.purpose = .withdraw → e.state = .withdrawing →
        exec c s = .next (((left.afterEntry k e.window).atTurn control).drainTest)))

/-- DATA in RECEIVING (R85, R91, R122, R146, R147, R149). In order and of the right length: taken, the gap ended, a
target's tenure count one higher; a NOTE target stores the MESSAGE at once, any other receiver holds the payload for the
mover, which asks to write it when it is free: at its place, in a list after reading the entry it needs, or with
SEGMENT_SHORT when the list has none. Of another length: discarded. Ahead: discarded with one NAK for the gap, which
keeps its sequence while it waits (log 48). Behind: discarded, an ACK is due. After the disconnect point: discarded.
After a target has decided to close, a payload in order is discarded and a duplicate still answered (log 13).
The disconnect point of a WRITE target (R42, R91, R101): HELD when the window is not READY, else TENURE when this in-order
frame is the last of the tenure limit; no other receiver has one. And where bytes lie (R29, R145, R147, R149): in the window at
base, offset and position, at the local address plus the position, or in the segment that the working cursor has reached. -/
def Obligations.DataTaken : Prop :=
  (∀ (s : State) (h : FrameHead) (seq : SeqNo) (payload : List Byte),
    s.delivers h → s.engine.hears h = true → s.engine.phase = .receiving → s.engine.abortDue = none →
    1 ≤ payload.length → payload.length ≤ 256 →
    let c := Instr.dataReceived h (BitVec.ofNat 8 seq.val) payload
    let d := (seq.val + 8 - s.engine.expectedSeq.val) % 8
    let x := s.heardFrom h
    let answers (t : State) : Prop := exec c s = .next (t.atTurn s.waiting)
    let right := payload.length = min 256 (s.engine.length - s.receivePos) ∧ s.engine.closing = none
    let counted := { x.engine with
      expectedSeq := s.engine.expectedSeq + 1, gapReported := false
      tenureCount := if s.engine.role = .target then s.engine.tenureCount + 1 else s.engine.tenureCount
      point := s.pointReached }
    let store : HeldPayload := ⟨seq, s.receivePos, payload, 0⟩
    let note := s.engine.role = .target ∧ s.engine.op = .note
    let asks := s.engine.point = none ∧ d = 0 ∧ right ∧ ¬ note ∧ s.moverBusy = false ∧ s.mover.buffer = none ∧
      s.mover.stores = []
    (s.engine.point.isSome = true → answers x) ∧
    (s.engine.point = none → d = 0 → ¬ right ∨ (note ∧ s.notes.reserved = false) → answers x) ∧
    (s.engine.point = none → d = 0 → right → note → s.notes.reserved = true →
      answers { x with
        engine := { counted with writtenSeq := some seq, ackDue := true }
        notes := { s.notes with stored := s.notes.stored ++ [.message s.engine.partner payload], reserved := false }
        host := s.host.raised .noteArrived }) ∧
    (s.engine.point = none → d = 0 → right → ¬ note → s.moverBusy = true →
      answers { x with
        engine := counted, mover := { s.mover with stores := s.mover.stores ++ [store] } }) ∧
    (asks → s.usesList = false →
      ∀ a room, s.placeOf s.receivePos = .found a room → a < 4294967296 → 256 ≤ room →
        answers { x with
          engine := counted, mover := { s.mover with stores := [store] }
          port := s.port.asked .mover (.write a (payload.take (min payload.length (64 - a % 64)))) }) ∧
    (asks → s.usesList = true →
      let y := s.slot s.engine.tag.slot
      let m := { s.mover with working := s.mover.settled, stores := [store] }
      (∀ a room, s.placeOf s.receivePos = .found a room → a < 4294967296 →
        answers { x with
          engine := counted, mover := m
          port := s.port.asked .mover (.write a (payload.take (min (min payload.length room) (64 - a % 64)))) }) ∧
      (∀ k, s.placeOf s.receivePos = .fetch k →
        let a := y.localAddr + 8 * k
        a < 4294967296 → answers { x with
          engine := counted, mover := { m with fetch := some ⟨k, []⟩ }
          port := s.port.asked .walker (.read a (min 8 (64 - a % 64))) }) ∧
      (s.placeOf s.receivePos = .short →
        answers { x with
          engine := { counted with abortDue := some (.localFault .segmentShort) }
          mover := { m with stores := [] }, port := s.port.giveUp })) ∧
    (s.engine.point = none → (0 < d ∧ d ≤ 3) ∨ (0 < d ∧ s.engine.writtenSeq = none) →
      if s.engine.gapReported then answers x
      else exec c s = .next (({ x with engine := { x.engine with gapReported := true } } : State).atTurn
        (s.waiting ++ [s.connFrame (.nak s.engine.expectedSeq)]))) ∧
    (s.engine.point = none → 3 < d → s.engine.writtenSeq.isSome = true →
      answers { x with engine := { x.engine with ackDue := true } })) ∧
  ((∀ (s : State) (p : Nat),
    (s.engine.role = .initiator ∨ s.engine.op ≠ .write → s.pointReached = none) ∧
    (s.engine.role = .initiator → s.ownSlot.form = .direct → s.placeOf p = .found (s.ownSlot.localAddr + p) 16777216) ∧
    (s.engine.role = .initiator → s.ownSlot.form = .list → s.placeOf p = s.mover.place s.ownSlot.segments) ∧
    (s.engine.role = .target → ∀ e, s.entry? s.engine.key = some e →
      (s.engine.op = .write →
        s.pointReached = if (s.window e.window).hold ≠ .ready then some .held
          else if s.settings.tenureLimit ≤ s.engine.tenureCount + 1 then some .tenure else none) ∧
      s.placeOf p = .found ((s.window e.window).base + e.offset + p) 16777216)) ∧
  (∀ (m : Mover) (segments : Nat),
    let w := m.working
    let entry (k : Nat) : Place := if k < segments then .fetch k else .short
    (m.cache = none → m.settled = w ∧ m.place segments = entry w.index) ∧
    (∀ g, m.cache = some g → g.index ≠ w.index → m.settled = w ∧ m.place segments = entry w.index) ∧
    (∀ g, m.cache = some g → g.index = w.index →
      (w.offset < g.len → m.settled = w ∧ m.place segments = .found (g.addr + w.offset) (g.len - w.offset)) ∧
      (g.len ≤ w.offset → m.settled = ⟨w.index + 1, 0⟩ ∧ m.place segments = entry (w.index + 1)))))

/-- ACK in SENDING (R86, R84, R87, R90, R42). Naming a frame of the list: it and the older ones leave, progress and the
send position rise to its end (log 22), the ack timer restarts or stops; the initiator with everything sent and
acknowledged awaits FINISH. The READ target whose list is empty decides to close: FINISH when the exchange is complete,
else DISCONNECT(TENURE) at the tenure limit, else DISCONNECT(HELD) on a window that is not READY. Naming none: only
heard.
NAK in SENDING (R86, R87), at an initiator and at a READ target: every frame older than the one named is
acknowledged and the sender goes back to it, the ack timer restarting, or has ABORT(LINK) due when it was retransmitted
three times, also with a cancel pending (log 47); naming the next sequence it acknowledges every frame, after which an
initiator with everything sent awaits FINISH and a READ target closes, with FINISH, DISCONNECT(TENURE) or
DISCONNECT(HELD), as after an ACK; naming any other it is only heard. -/
def Obligations.AckAndNakTaken : Prop :=
  (∀ (s : State) (h : FrameHead) (older rest : List SentFrame) (f : SentFrame),
    s.delivers h → s.engine.hears h = true → s.engine.phase = .sending → s.engine.abortDue = none →
    let c := Instr.ackReceived h (BitVec.ofNat 8 f.seq.val)
    let upTo := f.pos + f.len
    let i := s.engine.tag.slot
    let x := s.slot i
    let sent := max s.engine.sendPos upTo
    let all := rest = [] ∧ s.engine.length ≤ sent
    ((∀ g ∈ s.engine.unacked, g.seq ≠ f.seq) → exec c s = .next (s.hearing h)) ∧
    (s.engine.unacked = older ++ f :: rest → (∀ g ∈ older, g.seq ≠ f.seq) →
      (s.engine.role = .initiator →
        ∃ t, exec c s = .next t ∧
          t = ({ s.heardFrom h with sched := t.sched, engine := t.engine, mover := t.mover, port := t.port } : State).atTurn
            s.waiting ∧
          t.sched = s.sched.put i { x with
            progress := max x.progress upTo, cursor := if x.form = .list then f.endCursor else x.cursor } ∧
          t.engine.unacked = rest ∧ t.engine.sendPos = sent ∧
          t.engine.ackTimer = (if rest = [] then none else some s.settings.ackTime) ∧
          t.engine.phase = (if all then .awaitingFinish else .sending) ∧
          (all → t.engine.silenceTimer = some (4 * s.settings.ackTime))) ∧
      (s.engine.role = .target → s.engine.op = .read → s.engine.closing = none → ∀ e, s.entry? s.engine.key = some e →
        ∃ t, exec c s = .next t ∧
          t = ({ s.heardFrom h with service := t.service, engine := t.engine, mover := t.mover, port := t.port } : State).atTurn
            s.waiting ∧
          t.service = { s.service with entries := s.service.entries.map fun y =>
            if y.key = s.engine.key then { y with progress := max y.progress upTo } else y } ∧
          t.engine.unacked = rest ∧ t.engine.sendPos = sent ∧ t.engine.phase = .sending ∧
          t.engine.ackTimer = (if rest = [] then none else some s.settings.ackTime) ∧
          let at' := max e.progress upTo
          t.engine.closing =
            if rest ≠ [] then none
            else if s.engine.length ≤ sent then some (.finish s.engine.length)
            else if s.settings.tenureLimit ≤ s.engine.tenureCount then some (.disconnect .tenure at')
            else if (s.window e.window).hold ≠ .ready then some (.disconnect .held at')
            else none))) ∧
  (∀ (s : State) (h : FrameHead) (older rest : List SentFrame) (f : SentFrame) (q : SeqNo),
    s.delivers h → s.engine.hears h = true → s.engine.phase = .sending → s.engine.abortDue = none →
    let i := s.engine.tag.slot
    let x := s.slot i
    let initiator := s.engine.role = .initiator
    let target := s.engine.role = .target ∧ s.engine.op = .read
    let progressed (l : List SentFrame) (t : State) : Prop :=
      (initiator → t.service = s.service ∧ t.sched = match l.getLast? with
        | none => s.sched
        | some g => s.sched.put i { x with
            progress := max x.progress (g.pos + g.len), cursor := if x.form = .list then g.endCursor else x.cursor }) ∧
      (target → t.sched = s.sched ∧ t.service = match l.getLast? with
        | none => s.service
        | some g => { s.service with entries := s.service.entries.map fun y =>
            if y.key = s.engine.key then { y with progress := max y.progress (g.pos + g.len) } else y })
    let only (t : State) : Prop :=
      t = ({ s.heardFrom h with
        sched := t.sched, service := t.service, engine := t.engine, mover := t.mover, port := t.port } : State).atTurn s.waiting
    initiator ∨ target →
    (s.engine.unacked = older ++ f :: rest → (∀ g ∈ older, g.seq ≠ f.seq) →
      ∃ t, exec (.nakReceived h (BitVec.ofNat 8 f.seq.val)) s = .next t ∧ only t ∧
        progressed older t ∧ t.engine.unacked = f :: rest ∧ t.engine.sendPos = f.pos ∧
        t.engine.phase = .sending ∧ t.engine.closing = s.engine.closing ∧ t.engine.ackTimer = some s.settings.ackTime ∧
        (3 ≤ f.retries → t.engine.abortDue = some (.link .retries))) ∧
    ((∀ g ∈ s.engine.unacked, g.seq ≠ q) → q ≠ s.engine.nextSeq →
      exec (.nakReceived h (BitVec.ofNat 8 q.val)) s = .next (s.hearing h)) ∧
    ((∀ g ∈ s.engine.unacked, g.seq ≠ s.engine.nextSeq) → s.engine.unacked ≠ [] →
      ∃ t, exec (.nakReceived h (BitVec.ofNat 8 s.engine.nextSeq.val)) s = .next t ∧ only t ∧
        progressed s.engine.unacked t ∧ t.engine.unacked = [] ∧ t.engine.ackTimer = none ∧
        let upTo := s.engine.unacked.getLast?.elim 0 fun g => g.pos + g.len
        let sent := max s.engine.sendPos upTo
        t.engine.sendPos = sent ∧
        (initiator → t.engine.phase = (if s.engine.length ≤ sent then .awaitingFinish else .sending) ∧
          (s.engine.length ≤ sent → t.engine.silenceTimer = some (4 * s.settings.ackTime))) ∧
        (target → t.engine.phase = .sending) ∧
        (target → s.engine.closing = none → ∀ e, s.entry? s.engine.key = some e →
          let at' := max e.progress upTo
          t.engine.closing =
            if s.engine.length ≤ sent then some (.finish s.engine.length)
            else if s.settings.tenureLimit ≤ s.engine.tenureCount then some (.disconnect .tenure at')
            else if (s.window e.window).hold ≠ .ready then some (.disconnect .held at')
            else none)))

/-- FINISH taken by the initiator (R93, R16, R22, R151): with the exchange length as total and everything moved it
answers END, in CLOSING at once (log 52), and the slot ends DONE with the whole length confirmed; otherwise ABORT(LINK) is
due and nothing is answered.
DISCONNECT taken by the initiator. In a tenure (R94, R16, R20, R103): with an agreeing offset it answers END and the slot is
DISCONNECTED with a full deadline, or ends CANCELLED when a cancel is pending; otherwise ABORT(LINK) is due, also with a cancel
pending (log 37). In answer to a CONNECT, reason HELD (R14, R19, R80): the same with progress as it stands.
A closing frame repeated after END (R96): an answering party in CLOSING after END answers a further FINISH or
DISCONNECT with END again and changes nothing in its tables. -/
def Obligations.FinishAndDisconnectTaken : Prop :=
  (∀ (s : State) (h : FrameHead) (total : Word),
    s.delivers h → s.engine.hears h = true →
    s.engine.phase = .sending ∨ s.engine.phase = .receiving ∨ s.engine.phase = .awaitingFinish →
    s.engine.abortDue = none → s.engine.role = .initiator → 1 ≤ total.toNat → total.toNat ≤ Config.maxLength →
    let i := s.engine.tag.slot
    let x := s.slot i
    let moved := total.toNat = s.engine.length ∧
      (if s.engine.op = .read then x.progress = s.engine.length else s.engine.sendPos = s.engine.length)
    x.state = .active →
    let x' := s.heardFrom h
    (¬ moved → exec (.finishReceived h total) s = .next (({ x' with
      engine := { x'.engine with abortDue := some (.link .offset) } } : State).atTurn s.waiting)) ∧
    (moved → exec (.finishReceived h total) s = .next (({ x' with
      engine := { s.engine with
        phase := .closing, endSent := true, closing := none, unacked := [], ackDue := false, answerTimer := none
        ackTimer := none, silenceTimer := none, closeTimer := none }
      mover := { s.mover with buffer := none, stores := [], fetch := none }
      port := s.port.giveUp
      sched := (s.sched.put i { x with
        progress := max x.progress s.engine.length
        cursor := if x.form = .list then s.engine.unacked.getLast?.elim x.cursor (·.endCursor)
          else x.cursor }).ended i .done x.moreAfterDone } : State).atTurn
      (s.waiting.filter Frame.ofStationControl ++ [s.connFrame .endConnection])))) ∧
  (∀ (s : State) (h : FrameHead) (reason : DisconnectReason) (offset : Word),
    s.delivers h → s.engine.hears h = true → s.engine.role = .initiator → s.engine.abortDue = none →
    offset.toNat ≤ Config.maxLength →
    let c := Instr.disconnectReceived h reason.code offset
    let o := offset.toNat
    let i := s.engine.tag.slot
    let x := s.slot i
    let ends (sched : Scheduler) : State := ({ s.heardFrom h with
      engine := { s.engine with
        phase := .closing, endSent := true, closing := none, unacked := [], ackDue := false, answerTimer := none
        ackTimer := none, silenceTimer := none, closeTimer := none }
      mover := { s.mover with buffer := none, stores := [], fetch := none }
      port := s.port.giveUp
      sched := sched } : State).atTurn (s.waiting.filter Frame.ofStationControl ++ [s.connFrame .endConnection])
    let waits (y : Slot) : Slot := { y with state := .disconnected, deadline := some (64 * s.settings.resumeDeadline) }
    (s.engine.phase = .sending ∨ s.engine.phase = .receiving ∨ s.engine.phase = .awaitingFinish →
      s.engine.op ≠ .note → x.state = .active →
      let last := s.engine.unacked.find? fun f => f.pos + f.len = o
      let agrees := o = x.progress ∨ (s.engine.op = .write ∧ o ≤ s.engine.sendPos ∧ last.isSome = true)
      let y := { x with
        progress := max x.progress o
        cursor := if x.form = .list then last.elim x.cursor (·.endCursor) else x.cursor }
      (agrees → exec c s = .next (ends
        (if x.cancelRequested then (s.sched.put i y).ended i .cancelled else s.sched.put i (waits y)))) ∧
      (¬ agrees → exec c s = .next (({ s.heardFrom h with
        engine := { (s.heardFrom h).engine with abortDue := some (.link .offset) } } : State).atTurn s.waiting))) ∧
    (s.engine.phase = .calling → s.engine.answerTimer.isSome = true → s.engine.purpose = .connect → reason = .held →
      x.state = .selected →
      exec c s = .next (ends (if x.cancelRequested then s.sched.ended i .cancelled else s.sched.put i (waits x))))) ∧
  (∀ (s : State) (h : FrameHead) (total offset : Word) (reason : DisconnectReason),
    s.delivers h → s.engine.hears h = true → s.engine.phase = .closing → s.engine.endSent = true →
    s.engine.busRole = .answering → 1 ≤ total.toNat → total.toNat ≤ Config.maxLength → offset.toNat ≤ Config.maxLength →
    ∀ c ∈ [Instr.finishReceived h total, .disconnectReceived h reason.code offset],
      exec c s = .next ((s.heardFrom h).atTurn
        (s.waiting.filter Frame.ofStationControl ++ [s.connFrame .endConnection])))

/-- END taken by a closer (R95, R36, R37, R101): the holder releases, the Engine is IDLE. After FINISH the entry is
retired, a reservation it held becoming an ANNOUNCE note (R124). After DISCONNECT, whatever its reason (log 9), the
window at that moment decides: READY puts the entry at the tail of the resume queue; else it is PARKED, or WITHDRAW_DUE
while LEAVING (R48), and a HOLDING window that no entry keeps any more is HELD with WINDOW_HELD (R43). END in answer to
a WITHDRAW retires the entry (R39). The drain test follows (log 11).
END taken by a closer that serves a NOTE (R95, R122), which has no service entry: the side ends and no table changes. -/
def Obligations.EndTaken : Prop :=
  (∀ (s : State) (h : FrameHead) (e : Entry),
    s.delivers h → s.engine.hears h = true → s.engine.role = .target → s.entry? s.engine.key = some e →
    s.arb.entered = none → e.stamp = none → ServiceTable s →
    let k := s.engine.key
    let left := (s.heardFrom h).offConnection
    let control := s.waiting.filter Frame.ofStationControl
    (s.engine.phase = .closing → e.state = .connected →
      (∀ n, s.engine.closing = some (.finish n) →
        (e.reservation = false →
          exec (.endReceived h) s = .next (((left.afterEntry k e.window).atTurn control).drainTest)) ∧
        (e.reservation = true →
          exec (.endReceived h) s = .next ((({ left.afterEntry k e.window with
            notes := { s.notes with
              reserved := false, stored := s.notes.stored ++ [.announce k.initiator e.window e.offset e.length] }
            host := (left.afterEntry k e.window).host.raised .noteArrived } : State).atTurn control).drainTest))) ∧
      (∀ r n, s.engine.closing = some (.disconnect r n) →
        let joins := (s.window e.window).hold = .ready
        let kept := ∃ f ∈ s.service.entries, f.key ≠ k ∧ f.window = e.window ∧ (f.state = .connected ∨ f.state = .resuming)
        let held := (s.window e.window).hold = .holding ∧ ¬ kept
        let aside (queue : List Key) (entries : List Entry) : Prop :=
          ∃ t, exec (.endReceived h) s = .next t ∧
            t = ({ left with service := t.service, host := t.host } : State).atTurn control ∧
            t.service.queue = queue ∧ t.service.entries = entries ∧
            (held → t.host = s.host.raised .windowHeld ∧
              t.service.windows = s.service.windows.set e.window { s.window e.window with hold := .held }) ∧
            (¬ held → t.host = s.host ∧ t.service.windows = s.service.windows)
        (joins → exec (.endReceived h) s = .next (({ left with service := { s.service with
          queue := s.service.queue ++ [k]
          entries := s.service.entries.map fun f =>
            if f.key = k then { f with state := .ready, stamp := none, parkTimer := none } else f } } : State).atTurn
          control)) ∧
        (¬ joins → s.station.state = .online →
          aside s.service.queue (s.service.entries.map fun f =>
            if f.key = k then
              { f with state := .parked, parkTimer := some (64 * s.settings.parkLimit)
                       stamp := some (parkedCount s.service.entries + 1) }
            else f)) ∧
        (¬ joins → s.station.state = .leaving →
          aside (s.service.queue ++ [k]) (s.service.entries.map fun f =>
            if f.key = k then
              { f with state := .withdrawDue, withdrawReason := some .leaving, stamp := none, parkTimer := none }
            else f)))) ∧
    (s.engine.phase = .calling → s.engine.answerTimer.isSome = true → s.engine.purpose = .withdraw →
      e.state = .withdrawing →
      exec (.endReceived h) s = .next (((left.afterEntry k e.window).atTurn control).drainTest))) ∧
  (∀ (s : State) (h : FrameHead),
    s.delivers h → s.engine.hears h = true → s.entry? s.engine.key = none → s.engine.phase = .closing →
    s.engine.closing.isSome = true →
      exec (.endReceived h) s =
        .next (((s.heardFrom h).offConnection.atTurn (s.waiting.filter Frame.ofStationControl)).drainTest))

/-- RESUME and WITHDRAW taken by an IDLE Engine (R104, R17, R110, R119). A matching RESUME with the slot's progress is
accepted and the slot ACTIVE; with another offset it is refused with OFFSET and the slot ends LINK_ERROR; a matching
WITHDRAW is answered END, in CLOSING from then on (log 52), and the slot ends WITHDRAWN; a frame that matches no
DISCONNECTED slot meets UNKNOWN_TAG.
A WITHDRAW repeated after END (R96, R110): an answering party in CLOSING after END answers it with END again and
changes nothing in its tables. -/
def Obligations.ResumeAndWithdrawTaken : Prop :=
  (∀ (s : State) (h : FrameHead) (offset : Word) (reason : WithdrawReason),
    s.delivers h → s.engine.phase = .idle → offset.toNat ≤ Config.maxLength →
    let i := h.slot
    let x := s.slot i
    let matching := x.state = .disconnected ∧ h.gen = x.gen ∧ h.src = x.peer
    let answering (p : Purpose) : Engine :=
      { Engine.idle with phase := .answering, busRole := .answering, role := .initiator, partner := h.src
                         tag := ⟨h.slot, h.gen⟩, purpose := p, op := x.op, length := x.length }
    let taken (p : Purpose) : State := { s with station := s.station.heard h.src, engine := answering p }
    let answer (b : Body) : List Frame := [⟨⟨s.ownId, h.src, h.slot, h.gen⟩, b⟩]
    (matching → offset.toNat = x.progress →
      exec (.resumeReceived h offset) s = .next (({ taken .resume with
        sched := s.sched.put i { x with state := .active, deadline := none } } : State).atTurn
        (s.waiting ++ answer (.accept x.progress)))) ∧
    (matching → offset.toNat ≠ x.progress →
      exec (.resumeReceived h offset) s = .next (({ taken .resume with
        sched := s.sched.ended i (.linkError .offset) } : State).atTurn (s.waiting ++ answer (.refuse .offset)))) ∧
    (matching →
      exec (.withdrawReceived h reason.code) s = .next (({ taken .withdraw with
        engine := { answering .withdraw with phase := .closing, endSent := true }
        mover := { s.mover with buffer := none, stores := [], fetch := none }
        port := s.port.giveUp
        sched := s.sched.ended i (.withdrawn reason) } : State).atTurn
        (s.waiting.filter Frame.ofStationControl ++ answer .endConnection))) ∧
    (¬ matching →
      exec (.resumeReceived h offset) s = .next ((taken .resume).atTurn (s.waiting ++ answer (.refuse .unknownTag))) ∧
      exec (.withdrawReceived h reason.code) s =
        .next ((taken .withdraw).atTurn (s.waiting ++ answer (.refuse .unknownTag))))) ∧
  (∀ (s : State) (h : FrameHead) (reason : WithdrawReason),
    s.delivers h → s.engine.hears h = true → s.engine.phase = .closing → s.engine.endSent = true →
    s.engine.busRole = .answering →
      exec (.withdrawReceived h reason.code) s = .next ((s.heardFrom h).atTurn
        (s.waiting.filter Frame.ofStationControl ++ [s.connFrame .endConnection])))

/-- ABORT from the partner ends this side at once without an answer (R98, R97, R16, R36). An initiator's slot: LINK and
CANCELLED give LINK_ERROR with detail RETRIES, LOCAL_FAULT gives TARGET_FAULT; a target's entry is dropped, whatever its
state (log 25), a NOTE's reservation freed. A station that is still CALLING discards it, and so does one whose own
ABORT(LOCAL_FAULT) is due (R151, log 24). The drain test follows (log 11). -/
def Obligations.AbortTaken : Prop :=
  ∀ (s : State) (h : FrameHead) (reason : AbortReason),
    s.delivers h → s.engine.hears h = true → s.arb.entered = none →
    let c := Instr.abortReceived h reason.code
    let k := s.engine.key
    let left := (s.heardFrom h).offConnection
    let control := s.waiting.filter Frame.ofStationControl
    let outcome : ExchangeOutcome := if reason = .localFault then .targetFault else .linkError .retries
    let discards := s.engine.phase = .calling ∨ ∃ d, s.engine.abortDue = some (.localFault d)
    (discards → exec c s = .next (s.hearing h)) ∧
    (¬ discards → s.engine.role = .initiator → (s.slot s.engine.tag.slot).state = .active →
      exec c s = .next (({ left with sched := s.sched.ended s.engine.tag.slot outcome } : State).atTurn control)) ∧
    (¬ discards → s.engine.role = .initiator → (s.slot s.engine.tag.slot).state ≠ .active →
      exec c s = .next (left.atTurn control).drainTest) ∧
    (¬ discards → s.engine.role = .target → s.entry? k = none → exec c s = .next (left.atTurn control).drainTest) ∧
    (¬ discards → s.engine.role = .target → ∀ e, s.entry? k = some e → e.stamp = none →
      exec c s = .next ((({ left.afterEntry k e.window with
        host := (left.afterEntry k e.window).host.raised .serviceDropped } : State).atTurn control).drainTest)) ∧
    (¬ discards → s.engine.role = .target → ∀ e n, s.entry? k = some e → e.stamp = some n → e.state = .parked →
      let gone := left.afterEntry k e.window
      exec c s = .next ((({ gone with
        service := { gone.service with entries := gone.service.entries.map fun f =>
          { f with stamp := f.stamp.map fun m => if n < m then m - 1 else m } }
        host := gone.host.raised .serviceDropped } : State).atTurn control).drainTest))

/-- ROLLCALL and PRESENT (R157, R158, R163). An ONLINE or LEAVING station answers a ROLLCALL that names its ID with
PRESENT in the turn gap after it; one naming another ID only reports its source. A JOINING station whose claimed ID is
named by either goes OFFLINE with ID_CONFLICT, driving nothing. -/
def Obligations.RollCallHeard : Prop :=
  ∀ (s : State) (id : StationId) (slot : SlotId) (gen : Generation) (serial : BitVec 16),
    s.receives = true →
    let h : FrameHead := ⟨id, id, slot, gen⟩
    let on := s.station.state = .online ∨ s.station.state = .leaving
    let empty : Bus := { s.bus with received := none }
    let heard : State := { s with station := s.station.heard id, bus := empty }
    let conflict : State := { s with
      station := { s.station with state := .offline, cause := .idConflict, rollcallDue := false, rollcallTimer := none
                                  peers := Vector.replicate 16 ⟨.unknown, 0⟩ }
      bus := { s.bus with holdsLine := false, driving := none, received := none, outbox := [], turn := .none }
      arb := ⟨false, false, none⟩
      service := { s.service with windows := Vector.replicate 8 Window.disabled }
      host := s.host.raised .stateChanged }
    (on → id = s.ownId →
      exec (.rollcallReceived h serial) s = .next (s.atTurn (s.waiting ++ [⟨⟨s.ownId, s.ownId, 0, 0⟩, .present⟩])) ∧
      exec (.presentReceived h) s = .next { s with bus := empty }) ∧
    (on ∨ s.station.state = .joining → id ≠ s.ownId →
      exec (.rollcallReceived h serial) s = .next heard ∧ exec (.presentReceived h) s = .next heard) ∧
    (s.station.state = .joining → id = s.ownId →
      exec (.rollcallReceived h serial) s = .next conflict ∧ exec (.presentReceived h) s = .next conflict)

/-! ### Frames sent (R59, R78, R83, R95, R96, R97, R99) -/

/-- FRAME_SENT_GOOD (R53, R59, R78, R156, R159): the run of collisions ends and the partner has the first right. A
CONNECT or RESUME starts the answer timer, a CONNECT sets the call-out flag (R9), the first WITHDRAW starts both timers,
a later one the close timer (R109); a call whose want is gone has the holder release (R77); the ROLLCALL starts the roll
call timer. DATA, NAK and PRESENT do nothing more, nor does a frame of no open connection (log 2). With
nothing being driven neither end of a frame changes anything (log 2). -/
def Obligations.FrameSentGood : Prop :=
  ∀ (s : State) (f : Frame),
    (s.bus.driving = none → exec .frameSentGood s = .next s ∧ exec .collisionDetected s = .next s) ∧
    (s.bus.driving = some f →
    let c := Instr.frameSentGood
    let x : State := { s with
      bus := { s.bus with driving := none, turn := .theirs }, station := { s.station with collisionRun := 0 } }
    let mine := f = s.connFrame f.body
    let i := s.engine.tag.slot
    let answer : Engine := { s.engine with answerTimer := some s.settings.answerTime }
    ((∃ q p, f.body = .data q p) ∨ (∃ q, f.body = .nak q) ∨ f.body = .present ∨
        (f.body.isRollCall = false ∧ (s.engine.phase = .idle ∨ ¬ mine)) →
      exec c s = .next x.drainTest) ∧
    (∀ n, f.body = .rollcall n → s.station.state = .joining →
      exec c s = .next { x with station := { x.station with
        rollcallDue := false, rollcallTimer := some s.settings.answerTime } }) ∧
    (mine → s.engine.phase = .calling →
      (∀ op w o l, f.body = .connect op w o l → s.engine.purpose = .connect →
        (s.engine.wantGone = false → exec c s = .next { x with
          engine := answer, sched := s.sched.put i { s.slot i with callOut := true, collisions := 0 } }) ∧
        (s.engine.wantGone = true → exec c s = .next x.offConnection.drainTest)) ∧
      (∀ o, f.body = .resume o → s.engine.purpose = .resume →
        (s.engine.wantGone = false → exec c s = .next { x with engine := answer }) ∧
        (s.engine.wantGone = true → exec c s = .next x.offConnection.drainTest)) ∧
      (∀ r, f.body = .withdraw r →
        (s.engine.answerTimer = none → s.engine.wantGone = false → exec c s = .next { x with
          engine := { answer with closeRetries := 0, closeTimer := some s.settings.ackTime } }) ∧
        (s.engine.answerTimer = none → s.engine.wantGone = true → exec c s = .next x.offConnection.drainTest) ∧
        (s.engine.answerTimer.isSome = true → exec c s = .next { x with
          engine := { s.engine with closeTimer := some s.settings.ackTime } }))))

/-- The frames that answer and close, out good or lost to a collision that is not the fourth in a row (R59, R82, R83,
R91 to R97, R99; log 35): a lost one counts as sent. After ACCEPT the tenure begins at the offset it carried; after
REFUSE the Engine is IDLE; after ACK a WRITE or NOTE target with nothing left to write decides to close, with FINISH
when it is complete and DISCONNECT at its point; with the first closing frame it is CLOSING, and each starts the close
timer (log 13); after END a holder releases and an answering party waits under its silence timer; ABORT ends this side,
an initiator's slot with the outcome of the cause, a target's entry dropped. DATA and NAK keep their place.
COLLISION_DETECTED on a call or a roll call, and the fourth in a row (R59, R9, R78, R105, R109, R157, R159):
COLLISION is raised, the run grows, up to 4, and the partner has the first right (log 39). A lost PRESENT is not sent
again (R158). A lost CONNECT counts at its slot, which the fourth returns to the ready list, and the holder releases;
with the want gone, or on a RESUME or a first WITHDRAW, the holder releases and the entry stays taken; a WITHDRAW sent
again waits for its close timer. A lost ROLLCALL takes the station OFFLINE with ID_CONFLICT, as does the fourth
collision in a row an ONLINE or LEAVING one, drained by it or not (log 51): every live slot ends LEFT in slot order
(R27), an ACTIVE one with an ABORT due as well (log 24), but for one whose ABORT was the frame lost, which counts as sent
(R97). -/
def Obligations.FrameEndsAndCollisions : Prop :=
  (∀ (s : State) (b : Body) (c : Instr) (run : Nat) (host : HostInterface),
    s.bus.driving = some (s.connFrame b) → s.arb.entered = none → s.engine.phase ≠ .idle →
    (c = .frameSentGood ∧ run = 0 ∧ host = s.host) ∨
      (c = .collisionDetected ∧ s.station.collisionRun < 3 ∧ run = s.station.collisionRun + 1 ∧
        host = s.host.raised .collision) →
    let x : State := { s with
      bus := { s.bus with driving := none, turn := .theirs }, station := { s.station with collisionRun := run }
      host := host }
    let k := s.engine.key
    let i := s.engine.tag.slot
    ((∃ q p, b = .data q p) ∨ (∃ q, b = .nak q) ∨ b = .present → exec c s = .next x.drainTest) ∧
    (∀ o, b = .accept o → s.engine.phase = .answering → s.engine.isSender = false →
      (s.engine.role = .initiator ∨ s.engine.op = .note ∨ s.entryProgress < s.engine.length) →
        exec c s = .next { x with
          engine := { s.engine with
            phase := .receiving, sendPos := o, nextSeq := 0, unacked := [], expectedSeq := 0, writtenSeq := none
            gapReported := false, ackDue := false, tenureCount := 0, point := none, closing := none, closeRetries := 0
            endSent := false, answerTimer := none, ackTimer := none, closeTimer := none
            silenceTimer := some (4 * s.settings.ackTime) }
          mover := { buffer := none, stores := [], fetch := none, working := s.confirmedCursor, cache := none }
          port := s.port.giveUp }) ∧
    (∀ o, b = .accept o → s.engine.phase = .answering → s.engine.isSender = true →
      ∃ t, exec c s = .next t ∧ t = { x with engine := t.engine, mover := t.mover, port := t.port } ∧
        t.engine.phase = .sending ∧ t.engine.sendPos = o ∧ t.engine.nextSeq = 0 ∧ t.engine.unacked = [] ∧
        t.engine.tenureCount = 0 ∧ t.engine.silenceTimer = none) ∧
    (∀ r, b = .refuse r → s.engine.phase = .answering → exec c s = .next { x with
      engine := .idle, mover := .idle, port := s.port.giveUp, notes := { s.notes with reserved := false }
      bus := { x.bus with outbox := s.bus.outbox.filter Frame.ofStationControl } }.drainTest) ∧
    (∀ q, b = .ack q →
      let decides (cl : ClosingFrame) : Prop := exec c s = .next { x with
        engine := { s.engine with closing := some cl }
        mover := { s.mover with buffer := none, stores := [], fetch := none }, port := s.port.giveUp }
      let point := s.engine.role = .target ∧ s.engine.phase = .receiving ∧ s.engine.closing = none ∧
        s.engine.abortDue = none ∧ s.mover.stores = [] ∧ s.engine.ackDue = false
      (point → s.engine.op = .note → s.engine.writtenSeq.isSome = true → decides (.finish s.engine.length)) ∧
      (point → s.engine.op = .write →
        (s.engine.length ≤ s.entryProgress → decides (.finish s.engine.length)) ∧
        (s.entryProgress < s.engine.length → ∀ r, s.engine.point = some r → decides (.disconnect r s.entryProgress))) ∧
      (s.engine.role = .initiator ∨ s.engine.closing.isSome = true ∨ s.engine.abortDue.isSome = true ∨ s.mover.stores ≠ [] ∨
          s.engine.ackDue = true ∨
          (s.engine.op = .write ∧ s.entryProgress < s.engine.length ∧ s.engine.point = none) →
        s.engine.phase = .receiving → exec c s = .next x)) ∧
    ((∃ n, b = .finish n) ∨ (∃ r o, b = .disconnect r o) → s.engine.closing.isSome = true →
      (s.engine.phase ≠ .closing → exec c s = .next { x with engine := { s.engine with
        phase := .closing, closeRetries := 0, ackDue := false, ackTimer := none, silenceTimer := none
        closeTimer := some s.settings.ackTime } }) ∧
      (s.engine.phase = .closing →
        exec c s = .next { x with engine := { s.engine with closeTimer := some s.settings.ackTime } })) ∧
    (b = .endConnection → s.engine.phase = .closing → s.engine.endSent = true →
      (s.engine.busRole = .holder → exec c s = .next x.offConnection.drainTest) ∧
      (s.engine.busRole = .answering → exec c s = .next { x with
        engine := { s.engine with silenceTimer := some (4 * s.settings.ackTime) } })) ∧
    (∀ r cause, b = .abort r → s.engine.abortDue = some cause →
      let outcome : ExchangeOutcome := match cause with
        | .cancelled => .cancelled
        | .link d => .linkError d
        | .localFault d => .localFault d
      (s.engine.role = .initiator → (s.slot i).state = .active →
        exec c s = .next { x.offConnection with sched := s.sched.ended i outcome }) ∧
      (s.engine.role = .initiator → (s.slot i).state ≠ .active → exec c s = .next x.offConnection.drainTest) ∧
      (s.engine.role = .target → s.entry? k = none → exec c s = .next x.offConnection.drainTest) ∧
      (s.engine.role = .target → ∀ e, s.entry? k = some e → e.stamp = none →
        exec c s = .next (({ x.offConnection.afterEntry k e.window with
          host := (x.offConnection.afterEntry k e.window).host.raised .serviceDropped } : State).drainTest)))) ∧
  (∀ (s : State) (f : Frame),
    s.bus.driving = some f →
    let c := Instr.collisionDetected
    let x : State := { s with
      bus := { s.bus with driving := none, turn := .theirs }
      station := { s.station with collisionRun := min 4 (s.station.collisionRun + 1) }
      host := s.host.raised .collision }
    let i := s.engine.tag.slot
    let mine := f = s.connFrame f.body
    (s.station.collisionRun < 3 → f.body.isRollCall = false → s.engine.phase = .idle ∨ ¬ mine →
      exec c s = .next x.drainTest) ∧
    (s.station.collisionRun < 3 → f.body = .present → exec c s = .next x.drainTest) ∧
    (s.station.collisionRun < 3 → mine → s.engine.phase = .calling →
      (∀ op w o l, f.body = .connect op w o l → s.engine.purpose = .connect →
        let lost := { s.slot i with collisions := (s.slot i).collisions + 1 }
        let sched :=
          if 4 ≤ (s.slot i).collisions + 1 then s.sched.queued i { s.slot i with collisions := 0 }
          else s.sched.put i lost
        (s.engine.wantGone = false → (s.slot i).state = .selected →
          exec c s = .next { x.offConnection with sched := sched }) ∧
        (s.engine.wantGone = true → exec c s = .next x.offConnection.drainTest)) ∧
      (∀ o, f.body = .resume o → s.engine.purpose = .resume → exec c s = .next x.offConnection.drainTest) ∧
      (∀ r, f.body = .withdraw r → s.engine.purpose = .withdraw →
        (s.engine.answerTimer = none → exec c s = .next x.offConnection.drainTest) ∧
        (s.engine.answerTimer.isSome = true → exec c s = .next { x with
          engine := { s.engine with closeTimer := some s.settings.ackTime } }))) ∧
    (∀ n, f.body = .rollcall n → s.station.state = .joining →
      ∃ t, exec c s = .next t ∧ t.station.state = .offline ∧ t.station.cause = .idConflict ∧
        t.bus.holdsLine = false ∧ t.flag .collision = true ∧ t.flag .stateChanged = true) ∧
    (3 ≤ s.station.collisionRun → s.station.state = .online ∨ s.station.state = .leaving →
      ∃ t, exec c s = .next t ∧ t.station.state = .offline ∧ t.station.cause = .idConflict ∧
        t.bus.holdsLine = false ∧ t.bus.driving = none ∧ t.engine = .idle ∧ t.service.entries = [] ∧
        t.notes.stored = [] ∧ (∀ j, (t.slot j).state.live = false) ∧
        (∀ j, (s.slot j).state.live = true → (t.slot j).state = .finished) ∧
        ((∀ r, f.body ≠ .abort r) → (∀ j, (s.slot j).state.live = true → (t.slot j).outcome = some .left) ∧
          t.sched.finished = s.sched.finished ++ slotIds.filter fun j => (s.slot j).state.live) ∧
        (mine → (∃ r, f.body = .abort r) → s.engine.phase ≠ .idle → s.engine.role = .initiator →
          (s.slot i).state = .active → ∀ d, s.engine.abortDue = some (.localFault d) → (t.slot i).outcome = some (.localFault d)) ∧
        t.flag .collision = true ∧ t.flag .stateChanged = true))

/-- SEND_DATA and SEND_ACK (R53, R84 to R87, R145). A sender, initiator or READ target, with its turn and its payload
read drives a DATA frame: a new one with the next sequence while the credit is open and no stop holds, which joins the
list; after a go-back the frame of the list at the send position again with its own sequence, its count one higher (log
36). The ack timer runs. A receiver that owes an ACK drives it with the written sequence. Neither does anything when
this station may not drive (log 2) or an ABORT is due, a cancel of the ACTIVE slot included (R20, log 14).
The closing frame that a target has decided on begins at its turn, at the latest when the turn gap ends, with no ACK owed
and no ABORT due, and after the frames that wait (R53, R85, R92, R97; log 13).
SEND_ABORT (R97, R20; logs 12, 14): the ABORT that is due goes out at this station's turn with the reason of its
cause, and frames of the connection that waited do not. A cancel-requested ACTIVE slot makes ABORT(CANCELLED) due.
Otherwise nothing is sent (log 2). -/
def Obligations.FramesDriven : Prop :=
  (∀ s : State,
    let turn := s.bus.driving = none ∧ (s.bus.turn = .mine ∨ s.bus.turn = .either) ∧
      (s.bus.view = .held ∨ s.bus.view = .free)
    let cancels := s.engine.role = .initiator ∧ s.ownSlot.state = .active ∧ s.ownSlot.cancelRequested = true
    let abortDue := s.engine.abortDue ≠ none ∨ cancels
    (¬ turn ∨ abortDue → exec .sendData s = .next s ∧ exec .sendAck s = .next s) ∧
    (turn → ¬ abortDue → s.engine.phase = .sending →
      ∀ b : PayloadBuffer, s.mover.buffer = some b → b.pos = s.engine.sendPos → b.bytes.length = b.len →
        let drives (t : State) (q : SeqNo) : Prop := exec .sendData s = .next t ∧
          t = { s with bus := t.bus, engine := t.engine, mover := t.mover, port := t.port } ∧
          t.bus = { s.bus with driving := some (s.connFrame (.data q b.bytes)) } ∧
          t.engine.sendPos = s.engine.sendPos + b.len ∧
          t.engine.ackTimer = s.engine.ackTimer.or (some s.settings.ackTime)
        (s.stopped = false → s.engine.unacked.length < 4 → s.engine.sendPos < s.engine.length →
          (∀ g ∈ s.engine.unacked, g.pos ≠ s.engine.sendPos) →
          b.len = min 256 (s.engine.length - s.engine.sendPos) →
          ∃ t, drives t s.engine.nextSeq ∧
            t.engine.unacked = s.engine.unacked ++
              [{ seq := s.engine.nextSeq, pos := b.pos, len := b.len, retries := 0, endCursor := s.mover.working }] ∧
            t.engine.nextSeq = s.engine.nextSeq + 1 ∧
            t.engine.tenureCount =
              (if s.engine.role = .target then s.engine.tenureCount + 1 else s.engine.tenureCount)) ∧
        (∀ before g after, s.engine.unacked = before ++ g :: after → (∀ y ∈ before, y.pos ≠ s.engine.sendPos) →
          g.pos = s.engine.sendPos → g.retries < 3 → b.len = g.len →
          ∃ t, drives t g.seq ∧
            (t.engine.unacked = s.engine.unacked.map fun y =>
              if y.seq = g.seq then { g with retries := g.retries + 1, endCursor := s.mover.working } else y) ∧
            t.engine.nextSeq = s.engine.nextSeq ∧ t.engine.tenureCount = s.engine.tenureCount)) ∧
    (turn → ¬ abortDue → s.engine.phase = .receiving → s.engine.ackDue = true →
      ∀ q, s.engine.writtenSeq = some q →
        exec .sendAck s = .next { s with
          bus := { s.bus with driving := some (s.connFrame (.ack q)) }, engine := { s.engine with ackDue := false } })) ∧
  (∀ (s : State) (cl : ClosingFrame),
    s.bus.driving = none → s.bus.turn = .mine ∨ s.bus.turn = .theirs → s.bus.view = .held ∨ s.bus.view = .free →
    s.engine.closing = some cl → s.engine.phase ≠ .closing → s.engine.ackDue = false → s.engine.role = .target →
    s.engine.abortDue = none → s.bus.outbox = [] →
      exec .turnGapExpires s = .next { s with bus := { s.bus with
        turn := .either
        driving := some (s.connFrame (match cl with
          | .finish n => .finish n
          | .disconnect r o => .disconnect r o)) } }) ∧
  (∀ s : State,
    let turn := s.bus.driving = none ∧ (s.bus.turn = .mine ∨ s.bus.turn = .either) ∧
      (s.bus.view = .held ∨ s.bus.view = .free)
    let open' := s.engine.phase ≠ .idle ∧ s.engine.phase ≠ .answering
    let bus (r : AbortReason) : Bus := { s.bus with
      driving := some (s.connFrame (.abort r)), outbox := s.bus.outbox.filter Frame.ofStationControl }
    let inTenure := s.engine.phase = .sending ∨ s.engine.phase = .receiving ∨ s.engine.phase = .awaitingFinish
    (∀ cause, s.engine.abortDue = some cause → turn → open' →
      exec .sendAbort s = .next { s with bus := bus (match cause with
        | .cancelled => .cancelled
        | .link _ => .link
        | .localFault _ => .localFault) }) ∧
    (s.engine.abortDue = none → turn → inTenure → s.engine.role = .initiator →
      (s.slot s.engine.tag.slot).state = .active → (s.slot s.engine.tag.slot).cancelRequested = true →
      exec .sendAbort s = .next { s with
        bus := bus .cancelled, engine := { s.engine with abortDue := some .cancelled } }) ∧
    (¬ turn ∨ ¬ open' → exec .sendAbort s = .next s) ∧
    (s.engine.abortDue = none →
      ¬ inTenure ∨ s.engine.role = .target ∨ (s.slot s.engine.tag.slot).cancelRequested = false →
      exec .sendAbort s = .next s))

/-- Silence and the holder's release (R88, R89, R95): a running silence timer that expires, or a release seen in a
tenure, ends this side, an ACTIVE slot with LINK_ERROR and detail SILENCE, a CONNECTED entry dropped, the reservation of
a NOTE, which has no entry, freed; an entry that is not CONNECTED stays (log 10). CLOSING after END just goes IDLE;
while the answer to the call still goes out the release does nothing (log 45). The release acts once the view has left
HELD (log 7); a stopped silence timer changes nothing (log 2). A frame of the connection under way stops with it (R53;
log 40). An answering closer's step is done when the next round begins; a frame that it drives then is lost to a
collision. The drain test follows (log 11).
An ABORT that is due has settled the tenure (R97, R151): the partner's DATA, ACK, NAK, FINISH and DISCONNECT are
discarded, after a link cause as after a local fault (log 49). After a local fault silence and the holder's release end
nothing: the ABORT still goes out (log 24). -/
def Obligations.SilenceAndRelease : Prop :=
  (∀ s : State, s.arb.entered = none → s.engine.abortDue = none →
    let i := s.engine.tag.slot
    let k := s.engine.key
    let left := s.offConnection
    let silent : Scheduler := s.sched.ended i (.linkError .silence)
    let inTenure := s.engine.phase = .sending ∨ s.engine.phase = .receiving ∨ s.engine.phase = .awaitingFinish
    let released := s.engine.busRole = .answering ∧ s.bus.view ≠ .held
    (s.engine.silenceTimer = none → exec .silenceTimeout s = .next s) ∧
    (∀ c : Instr,
      (c = .silenceTimeout ∧ s.engine.silenceTimer.isSome = true) ∨ (c = .holdLineReleased ∧ released ∧ inTenure) →
      (s.engine.role = .initiator → (s.slot i).state = .active →
        exec c s = .next { left with sched := silent }) ∧
      (s.engine.role = .initiator → (s.slot i).state ≠ .active → exec c s = .next left.drainTest) ∧
      (s.engine.role = .target → ∀ e, s.entry? k = some e → e.stamp = none →
        (e.state = .connected →
          exec c s = .next (({ left.afterEntry k e.window with
            host := (left.afterEntry k e.window).host.raised .serviceDropped } : State).drainTest)) ∧
        (e.state ≠ .connected → exec c s = .next left.drainTest)) ∧
      (s.engine.role = .target → s.entry? k = none → exec c s = .next left.drainTest)) ∧
    (released → s.engine.phase = .closing → s.engine.endSent = true →
      exec .holdLineReleased s = .next left.drainTest) ∧
    (released → s.engine.phase = .answering → exec .holdLineReleased s = .next s) ∧
    (s.bus.view = .free → s.engine.busRole = .answering → s.engine.phase = .closing → s.engine.role = .target →
      (∃ n, s.engine.closing = some (.finish n)) → ∀ e, s.entry? k = some e → e.stamp = none → e.state = .connected →
      e.reservation = false →
        let begun : State := { left with
          bus := { left.bus with view := .contending, restGapOpen := false }, arb := { s.arb with abstaining := false } }
        ((∀ f ∈ s.bus.driving, f.body.isRollCall = true) →
          exec .roundBegins s = .next ((begun.afterEntry k e.window).drainTest)) ∧
        (∀ f, s.bus.driving = some f → f.body.isRollCall = false → s.station.collisionRun < 3 →
          exec .roundBegins s = .next ((({ begun with
            station := { s.station with collisionRun := s.station.collisionRun + 1 }
            host := s.host.raised .collision } : State).afterEntry k e.window).drainTest)))) ∧
  (∀ (s : State) (h : FrameHead) (q r : Byte) (p : List Byte) (o n : Word),
    s.engine.phase = .sending ∨ s.engine.phase = .receiving ∨ s.engine.phase = .awaitingFinish →
    s.engine.abortDue.isSome = true →
    (s.delivers h → s.engine.hears h = true →
      ∀ c ∈ [Instr.dataReceived h q p, .ackReceived h q, .nakReceived h q, .finishReceived h n, .disconnectReceived h r o],
        c.wf = true → exec c s = .next (s.hearing h)) ∧
    (∀ d, s.engine.abortDue = some (.localFault d) →
      exec .holdLineReleased s = .next s ∧
      exec .silenceTimeout s = .next { s with engine := { s.engine with silenceTimer := none } }))

/-! ### Timers -/

/-- ANSWER_TIMEOUT (R79, R13, R19, R38, R39, R163): the holder releases; the owner's no-answer count rises first, three
ending a slot NO_ANSWER and dropping an entry, fewer requeueing; then the Peer Table counts. Shown for a peer whose
count stays below three. -/
def Obligations.AnswerTimeout : Prop :=
  ∀ s : State,
    s.engine.phase = .calling → s.engine.answerTimer.isSome = true → s.engine.busRole = .holder →
    s.arb.entered = none →
    let i := s.engine.tag.slot
    let x := s.slot i
    let k := s.engine.key
    let p := s.engine.partner
    let peer := s.peer p
    let noted : Peer := if peer.state = .silent then ⟨.silent, 3⟩ else { peer with count := peer.count + 1 }
    let counted : Station := { s.station with peers := s.station.peers.set p noted }
    let left : State := { s.offConnection with station := counted }
    let y := { x with noAnswers := x.noAnswers + 1 }
    let settled :=
      if x.cancelRequested then s.sched.ended i .cancelled
      else if 3 ≤ x.noAnswers + 1 then (s.sched.put i y).ended i .noAnswer
      else if s.station.state = .leaving then (s.sched.put i y).ended i .left
      else s.sched.queued i y
    peer.state = .silent ∨ peer.count + 1 < 3 →
    (s.engine.purpose = .connect → x.state = .selected →
      exec .answerTimeout s = .next { left with sched := settled }) ∧
    (s.engine.purpose ≠ .connect → ∀ e, s.entry? k = some e → e.stamp = none → k ∉ s.service.queue →
      (e.state = .resuming ∨ e.state = .withdrawing → 3 ≤ e.noAnswers + 1 →
        exec .answerTimeout s = .next (({ left.afterEntry k e.window with
          host := (left.afterEntry k e.window).host.raised .serviceDropped } : State).drainTest)) ∧
      (e.state = .withdrawing ∨ (e.state = .resuming ∧ (s.window e.window).hold = .ready) → e.noAnswers + 1 < 3 →
        exec .answerTimeout s = .next { left with service := { s.service with
          queue := s.service.queue ++ [k]
          entries := s.service.entries.map fun f =>
            if f.key = k then
              { f with state := if e.state = .withdrawing then .withdrawDue else .ready
                       noAnswers := f.noAnswers + 1, stamp := none, parkTimer := none }
            else f } }))

/-- The third no-answer makes a peer SILENT (R163, R164, R24, R46): the owner of the call is settled first, ending
CANCELLED or NO_ANSWER where R13 and R19 end it; then PEER_SILENT is raised, the QUEUED slots to the peer end
PEER_SILENT in ascending order, the owner among them where it was requeued, and every entry keyed to the peer is
dropped. -/
def Obligations.PeerGoesSilent : Prop :=
  ∀ s : State,
    s.engine.phase = .calling → s.engine.answerTimer.isSome = true → s.engine.purpose = .connect →
    SlotLists s → OneSelected s →
    let i := s.engine.tag.slot
    let p := s.engine.partner
    let x := s.slot i
    let dead (j : SlotId) : Bool := (s.slot j).state = .queued && (s.slot j).peer = p
    let owner : Option ExchangeOutcome :=
      if x.cancelRequested then some .cancelled else if 3 ≤ x.noAnswers + 1 then some .noAnswer else none
    x.state = .selected → x.peer = p → (s.peer p).state ≠ .silent → (s.peer p).count = 2 →
    s.station.state = .online →
      ∃ t, exec .answerTimeout s = .next t ∧ t.engine = .idle ∧ t.peer p = ⟨.silent, 3⟩ ∧ t.flag .peerSilent = true ∧
        (∀ j, dead j = true → t.slot j = (s.slot j).ended .peerSilent) ∧
        (∀ j, j ≠ i → dead j = false → t.slot j = s.slot j) ∧
        (t.slot i).state = .finished ∧ (t.slot i).outcome = some (owner.getD .peerSilent) ∧
        (owner.isSome = true → t.sched.finished = s.sched.finished ++ i :: slotIds.filter dead) ∧
        (owner = none → t.sched.finished = s.sched.finished ++ slotIds.filter fun j => dead j || j = i) ∧
        (∀ e ∈ t.service.entries, e.key.initiator ≠ p) ∧
        (∀ e ∈ s.service.entries, e.key.initiator = p → t.flag .serviceDropped = true)

/-- ACK_TIMEOUT (R87, R86): the sender goes back to the oldest frame of the list with a fresh ack timer; when that frame
has been retransmitted three times ABORT(LINK) is due instead. An expiry of a stopped timer changes nothing (log 2).
CLOSE_TIMEOUT (R95, R109): below three retries the closing frame, or the WITHDRAW with its reason, goes out again
and the count rises; at three the step is done: after FINISH, and after WITHDRAW, the entry is retired; after
DISCONNECT, whatever its reason, the window decides (R120; log 9): on a READY one the entry is READY, on another PARKED.
An expiry of a stopped timer changes nothing (log 2). -/
def Obligations.AckAndCloseTimeout : Prop :=
  (∀ s : State,
    (s.engine.ackTimer = none → exec .ackTimeout s = .next s) ∧
    (s.engine.ackTimer.isSome = true → s.engine.phase = .sending → s.engine.abortDue = none →
      ∀ f rest, s.engine.unacked = f :: rest →
        ∃ t, exec .ackTimeout s = .next t ∧
          t = { s with engine := t.engine, mover := t.mover, port := t.port } ∧
          t.engine.unacked = s.engine.unacked ∧ t.engine.sendPos = f.pos ∧
          t.engine.ackTimer = some s.settings.ackTime ∧ t.engine.phase = .sending ∧
          (3 ≤ f.retries → t.engine.abortDue = some (.link .retries) ∧ t.mover.buffer = none))) ∧
  (∀ (s : State) (e : Entry),
    let k := s.engine.key
    let again (b : Body) : Prop := ∃ t, exec .closeTimeout s = .next t ∧
      t = { s with bus := t.bus
                   engine := { s.engine with closeRetries := s.engine.closeRetries + 1, closeTimer := none } } ∧
      t.bus = { s.bus with driving := t.bus.driving, outbox := t.bus.outbox } ∧
      t.bus.frames = s.bus.frames ++ [s.connFrame b]
    let withdraws := s.engine.phase = .calling ∧ s.engine.purpose = .withdraw
    let retired := exec .closeTimeout s = .next ((s.offConnection.afterEntry k e.window).drainTest)
    (s.engine.closeTimer = none → exec .closeTimeout s = .next s) ∧
    (s.engine.closeTimer.isSome = true → s.engine.closeRetries < 3 →
      (s.engine.phase = .closing → ∀ cl, s.engine.closing = some cl → again (match cl with
        | .finish n => .finish n
        | .disconnect r o => .disconnect r o)) ∧
      (withdraws → ∀ r, s.entry? k = some e → e.withdrawReason = some r → again (.withdraw r))) ∧
    (s.engine.closeTimer.isSome = true → 3 ≤ s.engine.closeRetries → s.arb.entered = none →
      s.entry? k = some e → e.stamp = none →
      (s.engine.phase = .closing → e.state = .connected → e.reservation = false →
        ∀ n, s.engine.closing = some (.finish n) → retired) ∧
      (withdraws → e.state = .withdrawing → retired) ∧
      (s.engine.phase = .closing → e.state = .connected → (s.window e.window).hold = .ready → k ∉ s.service.queue →
        ∀ r n, s.engine.closing = some (.disconnect r n) →
        exec .closeTimeout s = .next { s.offConnection with service := { s.service with
          queue := s.service.queue ++ [k]
          entries := s.service.entries.map fun f =>
            if f.key = k then { f with state := .ready, stamp := none, parkTimer := none } else f } }) ∧
      (s.engine.phase = .closing → e.state = .connected → (s.window e.window).hold ≠ .ready → s.station.state = .online →
        ServiceTable s → ∀ r n, s.engine.closing = some (.disconnect r n) →
        let kept := ∃ f ∈ s.service.entries, f.key ≠ k ∧ f.window = e.window ∧ (f.state = .connected ∨ f.state = .resuming)
        let held := (s.window e.window).hold = .holding ∧ ¬ kept
        ∃ t, exec .closeTimeout s = .next t ∧
          t = { s.offConnection with service := t.service, host := t.host } ∧
          t.service.queue = s.service.queue ∧
          (t.service.entries = s.service.entries.map fun f =>
            if f.key = k then
              { f with state := .parked, parkTimer := some (64 * s.settings.parkLimit)
                       stamp := some (parkedCount s.service.entries + 1) }
            else f) ∧
          (held → t.host = s.host.raised .windowHeld ∧
            t.service.windows = s.service.windows.set e.window { s.window e.window with hold := .held }) ∧
          (¬ held → t.host = s.host ∧ t.service.windows = s.service.windows))))

/-- The deadlines of waiting objects: RESUME_DEADLINE_EXPIRES (R103, R17) ends a DISCONNECTED slot RESUME_TIMEOUT;
PARK_TIMER_EXPIRES (R45) makes a PARKED entry WITHDRAW_DUE with reason PARK_LIMIT at the tail of the resume queue,
higher stamps one lower; ROLLCALL_TIMER_EXPIRES (R157) takes a JOINING station ONLINE and releases the hold line. An
expiry of a stopped timer changes nothing (log 2). -/
def Obligations.DeadlinesExpire : Prop :=
  ∀ (s : State) (i : SlotId) (k : Key),
    let parkExpires := Instr.parkTimerExpires k.initiator k.tag.slot k.tag.gen
    ((s.slot i).state = .disconnected → (s.slot i).deadline.isSome = true →
      exec (.resumeDeadlineExpires i) s = .next { s with sched := s.sched.ended i .resumeTimeout }) ∧
    ((s.slot i).state ≠ .disconnected ∨ (s.slot i).deadline = none →
      exec (.resumeDeadlineExpires i) s = .next s) ∧
    (∀ e, s.entry? k = some e → e.state = .parked → e.parkTimer.isSome = true → k ∉ s.service.queue →
      ∀ n, e.stamp = some n →
        exec parkExpires s = .next { s with service := { s.service with
          queue := s.service.queue ++ [k]
          entries := s.service.entries.map fun f =>
            let lowered := f.stamp.map fun m => if n < m then m - 1 else m
            if f.key = k then
              { f with state := .withdrawDue, withdrawReason := some .parkLimit, stamp := none, parkTimer := none }
            else { f with stamp := lowered } } }) ∧
    (s.entry? k = none → exec parkExpires s = .next s) ∧
    (∀ e, s.entry? k = some e → e.state ≠ .parked → exec parkExpires s = .next s) ∧
    (s.station.state = .joining → s.station.rollcallTimer.isSome = true →
      exec .rollcallTimerExpires s = .next { s with
        station := { s.station with state := .online, rollcallTimer := none }
        bus := { s.bus with holdsLine := false }
        arb := { s.arb with abstaining := true }
        host := s.host.raised .stateChanged }) ∧
    (s.station.rollcallTimer = none → exec .rollcallTimerExpires s = .next s)

/-! ### Local Port, records and completion ring (files 09, 11, 12) -/

/-- The end of a local transaction (R141, R142, R143, R151). One that a SOFT_RESET left on the bus completes first and
is reported to nobody (the order is the model's, log 17). One whose result is discarded only leaves its bytes in memory,
and the mover may then ask for what had to wait behind it. A copy-out that is not done asks for its next bytes. With no
transaction in progress nothing happens (log 2). A request is granted by an idle port and waits while the port is
granted; when a transaction ends the waiting requester of highest priority is granted: mover, walker, writer, copier,
loader. -/
def Obligations.LocalTransactions : Prop :=
  (∀ (s : State) (data : List Byte),
    let c := Instr.localTransactionEnds data
    (s.port.current = none → s.port.orphans = [] → exec c s = .next s ∧ exec .localBusError s = .next s) ∧
    (∀ a bytes rest, s.port.orphans = .write a bytes :: rest → data = [] →
      exec c s = .next { s with
        port := { s.port with orphans := rest }, mem := Memory.write s.mem a bytes }) ∧
    (∀ t rest, s.port.orphans = t :: rest →
      exec .localBusError s = .next { s with port := { s.port with orphans := rest } }) ∧
    (s.port.orphans = [] → s.drained = false →
      (∀ who a bytes, s.port.current = some ⟨who, .write a bytes, .discarded⟩ → data = [] →
        (who ≠ .mover ∧ who ≠ .walker) ∨ (s.mover.buffer = none ∧ s.mover.stores = []) →
        exec c s = .next { s with port := s.port.grantNext, mem := Memory.write s.mem a bytes } ∧
        exec .localBusError s = .next { s with port := s.port.grantNext }) ∧
      (∀ who t place room (b : PayloadBuffer), s.port.current = some ⟨who, t, .discarded⟩ →
        who = .mover ∨ who = .walker → (∀ w ∈ s.port.waiting, w.1 ≠ .mover ∧ w.1 ≠ .walker) →
        s.mover.fetch = none → s.usesList = false → s.mover.buffer = some b → b.bytes.length < b.len →
        s.placeOf (b.pos + b.bytes.length) = .found place room → place < 4294967296 →
        exec .localBusError s = .next { s with port := Port.grantNext { s.port with
          waiting := s.port.waiting ++
            [(.mover, .read place (min (min (b.len - b.bytes.length) room) (64 - place % 64)))] } }) ∧
      (∀ a bytes (r : CopyOut), s.port.current = some ⟨.copier, .write a bytes, .running⟩ → s.copier = some r →
        r.bytes.length = 48 → r.done + bytes.length < 48 → data = [] →
        let d := r.done + bytes.length
        let left := r.bytes.drop d
        exec c s = .next { s with
          copier := some { r with done := d }
          mem := Memory.write s.mem a bytes
          port := Port.grantNext { s.port with waiting := s.port.waiting ++
            [(.copier, .write (r.addr + d) (left.take (min (48 - d) (64 - (r.addr + d) % 64))))] } }))) ∧
  (∀ (s : State) (who : Requester) (t : Transaction),
    (s.port.current = none → s.request who t = { s with port := { s.port with current := some ⟨who, t, .running⟩ } }) ∧
    (s.port.current ≠ none → s.request who t = { s with port := { s.port with waiting := s.port.waiting ++ [(who, t)] } })) ∧
  (∀ p : Port,
    let rank (r : Requester) : Nat := match r with
      | .mover => 1 | .walker => 2 | .writer => 3 | .copier => 4 | .loader => 5
    (p.waiting = [] → p.grantNext = { p with current := none }) ∧
    (p.waiting ≠ [] → ∃ w ∈ p.waiting, p.grantNext = { p with current := some ⟨w.1, w.2, .running⟩
                                                              waiting := p.waiting.erase w } ∧
      ∀ v ∈ p.waiting, rank w.1 ≤ rank v.1))

/-- LOCAL_BUS_ERROR at each requester (R150, R4, R127, R172): nothing is written. The mover or walker gives up and
ABORT(LOCAL_FAULT) is due, also with a cancel pending (log 47), but not in the place of a cause settled before; the
writer is SUSPENDED with RING_FAULT and FAULT_ADDRESS; a copy-out ends LOCAL_FAULT with its note at the head; a POST
load frees its slot, a JOIN load returns the station to OFFLINE, both with LOCAL_FAULT and detail BUS_ERROR. A POST load
that was told to stop ends with its present transaction, faulted or not: its slot is FREE and the result NOT_ONLINE
(R143, R4; log 16). -/
def Obligations.LocalFaults : Prop :=
  ∀ (s : State) (txn : Transaction),
    s.port.orphans = [] → s.drained = false →
    let at' (r : Requester) := s.port.current = some ⟨r, txn, .running⟩
    let fails (command : Byte) : HostInterface := { s.host.answered command .localFault 1 with lost := s.host.lost }
    (at' .mover ∨ at' .walker → exec .localBusError s = .next { s with
      mover := { s.mover with buffer := none, stores := [], fetch := none }
      port := s.port.giveUp.grantNext
      engine := { s.engine with abortDue := s.engine.abortDue.or (some (.localFault .busError)) } }) ∧
    (at' .writer → ∀ r : Record, s.writer.record = some r → exec .localBusError s = .next { s with
      writer := { state := .suspended, record := some { r with done := 0 } }
      port := s.port.grantNext
      host := { s.host.raised .ringFault with faultAddress := BitVec.ofNat 32 txn.addr } }) ∧
    (at' .copier → exec .localBusError s = .next { s with
      copier := none, notes := { s.notes with copying := false }, port := s.port.grantNext, host := fails 0x0A }) ∧
    (∀ i a b, at' .loader → s.loader = some ⟨.descriptor i, a, b, false⟩ → (s.slot i).state = .loading →
      (∃ j, j ≠ i ∧ (s.slot j).state ≠ .free) ∨ s.station.state ≠ .leaving →
      exec .localBusError s = .next { s with
        loader := none, sched := s.sched.put i (Slot.blank (s.slot i).gen), port := s.port.grantNext
        host := fails 0x05 }) ∧
    (∀ i a b c data, at' .loader → s.loader = some ⟨.descriptor i, a, b, true⟩ → (s.slot i).state = .loading →
      (∃ j, j ≠ i ∧ (s.slot j).state ≠ .free) ∨ s.station.state ≠ .leaving →
      c = .localBusError ∨ (c = .localTransactionEnds data ∧ ∃ z n, txn = .read z n ∧ data.length = n) →
      exec c s = .next { s with
        loader := none, sched := s.sched.put i (Slot.blank (s.slot i).gen), port := s.port.grantNext
        host := { s.host.answered 0x05 .notOnline with lost := s.host.lost } }) ∧
    (∀ a b, at' .loader → s.loader = some ⟨.config, a, b, false⟩ → exec .localBusError s = .next { s with
      loader := none, station := { s.station with state := .offline, cause := .none }, port := s.port.grantNext
      host := { s.host.raised .stateChanged with
        result := ⟨.localFault, 0x01, 1⟩, busy := false
        event := (s.host.raised .stateChanged).event ||| Event.commandDone.mask } })

/-- DESCRIPTOR_LOAD_ENDS (R2, R3, R4, R5, R174). A descriptor that fails a check frees its slot with DESCRIPTOR_INVALID
and the check's number. A valid one is placed: ARMED when standing; else its first repetition starts and it is QUEUED,
or FINISHED PEER_SILENT when the peer is SILENT; the result is OK with the tag. The checks pass exactly on the legal
values of R2. -/
def Obligations.DescriptorLoadEnds : Prop :=
  (∀ (s : State) (data b : List Byte) (a n addr : Nat) (i : SlotId),
    s.port.orphans = [] → s.port.current = some ⟨.loader, .read a n, .running⟩ →
    s.loader = some ⟨.descriptor i, addr, b, false⟩ → b.length + n = 32 → data.length = n →
    (s.slot i).state = .loading → s.station.state = .online →
    let d := parseDescriptor (b ++ data)
    let x := d.fill (s.slot i)
    let g := (s.slot i).gen
    let loaded (code : ResultCode) (detail : Nat) : State := { s with
      loader := none, port := s.port.grantNext
      host := { s.host.answered 0x05 code detail with lost := s.host.lost } }
    let first : Slot := { x with gen := g + 1 }
    (∀ m, d.failing? s.ownId = some m →
      exec (.descriptorLoadEnds data) s =
        .next { loaded .descriptorInvalid m with sched := s.sched.put i (Slot.blank g) }) ∧
    (d.failing? s.ownId = none → d.standing = true →
      exec (.descriptorLoadEnds data) s =
        .next { loaded .ok (i.val + 256 * g.val) with sched := s.sched.put i { x with state := .armed } }) ∧
    (d.failing? s.ownId = none → d.standing = false → (s.peer x.peer).state ≠ .silent →
      exec (.descriptorLoadEnds data) s =
        .next { loaded .ok (i.val + 256 * (g + 1).val) with sched := s.sched.queued i first }) ∧
    (d.failing? s.ownId = none → d.standing = false → (s.peer x.peer).state = .silent → SlotLists s →
      exec (.descriptorLoadEnds data) s =
        .next { loaded .ok (i.val + 256 * (g + 1).val) with sched := (s.sched.put i first).ended i .peerSilent })) ∧
  (∀ (own : StationId) (d : Descriptor),
    d.failing? own = none ↔
      (d.op = 1 ∨ d.op = 2 ∨ d.op = 3) ∧ d.peer ≤ 15 ∧ d.peer ≠ own.val ∧
      (d.op ≠ 3 → d.window ≤ 7 ∧ d.offset ≤ 16777215) ∧
      1 ≤ d.length ∧ d.length ≤ (if d.op = 3 then 32 else 16777216) ∧
      (d.form = 1 ∨ d.form = 2) ∧ (d.form = 1 → d.localAddr + d.length ≤ 4294967296) ∧
      (d.form = 2 → 1 ≤ d.segments ∧ d.segments ≤ 256) ∧ (d.standing = true → d.line ≤ 3))

/-- CONFIG_LOAD_ENDS (R155, R28, R163, R166, R174). A block that fails a check returns the station to OFFLINE with
CONFIG_INVALID and the field index, its values not in force. A legal one comes into force: JOINING, the roll call due,
every peer UNKNOWN, the windows loaded READY, both ring indices 0. The checks pass exactly on the legal values of R155. -/
def Obligations.ConfigLoadEnds : Prop :=
  (∀ (s : State) (data b : List Byte) (a n addr : Nat),
    s.port.orphans = [] → s.port.current = some ⟨.loader, .read a n, .running⟩ →
    s.loader = some ⟨.config, addr, b, false⟩ → b.length + n = 160 → data.length = n → s.station.state = .configuring →
    let k := parseConfig (b ++ data)
    let host (code : ResultCode) (detail : Nat) : HostInterface :=
      { (s.host.raised .stateChanged).answered 0x01 code detail with lost := s.host.lost }
    (∀ m, k.failing? = some m →
      exec (.configLoadEnds data) s = .next { s with
        loader := none, port := s.port.grantNext
        station := { s.station with state := .offline, cause := .none }, host := host .configInvalid m }) ∧
    (k.failing? = none →
      ∃ t, exec (.configLoadEnds data) s = .next t ∧
        t = { s with
          loader := none, port := s.port.grantNext, service := t.service
          station := { s.station with
            state := .joining, settings := some k.settings, rollcallDue := true, rollcallTimer := none
            collisionRun := 0, peers := Vector.replicate 16 ⟨.unknown, 0⟩ }
          writer := ⟨.running, none⟩
          host := { host .ok 0 with producer := 0, consumer := 0 } } ∧
        t.service.entries = s.service.entries ∧ t.service.queue = s.service.queue ∧
        ∀ w, t.window w =
          { enabled := (k.window w).enabled, base := (k.window w).base, size := (k.window w).size
            readSet := BitVec.ofNat 16 (k.window w).readSet, writeSet := BitVec.ofNat 16 (k.window w).writeSet
            announce := (k.window w).announce, hold := .ready })) ∧
  (∀ k : ConfigBlock,
    k.failing? = none ↔
      k.id ≤ 15 ∧ 4 ≤ k.answerTime ∧ k.answerTime ≤ 255 ∧ 4 ≤ k.ackTime ∧ k.ackTime ≤ 255 ∧
      k.resumeDeadline ≠ 0 ∧ k.parkLimit ≠ 0 ∧ k.tenureLimit ≠ 0 ∧
      (k.ringSize = 16 ∨ k.ringSize = 32 ∨ k.ringSize = 64 ∨ k.ringSize = 128 ∨ k.ringSize = 256 ∨
        k.ringSize = 512 ∨ k.ringSize = 1024) ∧
      k.ringBase + k.ringSize * 32 ≤ 4294967296 ∧
      ∀ w, (k.window w).enabled = true →
        1 ≤ (k.window w).size ∧ (k.window w).size ≤ 16777216 ∧ (k.window w).base + (k.window w).size ≤ 4294967296)

/-- The mover's and the walker's ends (R145, R146, R147, R148, R149, R15, R85, R141). A payload read whole is ready to
go out, or is thrown away when a stop reached it. A payload stored whole gives the written sequence, an ACK due and
progress to its end, and the store held behind it begins. A read or a store that is not whole asks for its next piece at
its place, in the window, in a DIRECT local side or in a list, where the walker may first have to read the entry (log
50); past the top of the space, or with no entry left, it gives ABORT(LOCAL_FAULT), also with a cancel pending (log 47).
A segment entry read whole is cached, its length one more than its field. -/
def Obligations.MoverEnds : Prop :=
  ∀ s : State, s.port.orphans = [] → s.drained = false →
    let x := s.slot s.engine.tag.slot
    let w := s.mover.working
    let free := s.mover.fetch = none ∧ s.engine.abortDue = none ∧ ∀ w ∈ s.port.waiting, w.1 ≠ .mover ∧ w.1 ≠ .walker
    let moved (n : Nat) : Cursor := if s.usesList then { w with offset := w.offset + n } else w
    let place (m : Mover) (p : Nat) : Place := if s.usesList then m.place x.segments else s.placeOf p
    let goesOn (c : Instr) (r : State) (m : Mover) (p left : Nat) (make : Nat → Nat → Transaction) : Prop :=
      let m := { m with working := if s.usesList then m.settled else m.working }
      let asks (m : Mover) (who : Requester) (t : Transaction) : Prop := exec c s =
        .next { r with mover := m, port := Port.grantNext { s.port with waiting := s.port.waiting ++ [(who, t)] } }
      let faults (d : FaultDetail) : Prop := exec c s = .next { r with
        engine := { r.engine with abortDue := some (.localFault d) }
        mover := { m with buffer := none, stores := [] }, port := s.port.giveUp.grantNext }
      (∀ z room, place m p = .found z room → z < 4294967296 →
        asks m .mover (make z (min (min left room) (64 - z % 64)))) ∧
      (∀ z room, place m p = .found z room → 4294967296 ≤ z → faults .busError) ∧
      (∀ k, place m p = .fetch k → x.localAddr + 8 * k < 4294967296 →
        let z := x.localAddr + 8 * k
        asks { m with fetch := some ⟨k, []⟩ } .walker (.read z (min 8 (64 - z % 64)))) ∧
      (∀ k, place m p = .fetch k → 4294967296 ≤ x.localAddr + 8 * k → faults .busError) ∧
      (place m p = .short → faults .segmentShort)
    (∀ a n data (b : PayloadBuffer), s.port.current = some ⟨.mover, .read a n, .running⟩ → s.mover.buffer = some b →
      data.length = n →
      let m := { s.mover with working := moved n, buffer := some { b with bytes := b.bytes ++ data } }
      (b.bytes.length + n = b.len → b.discard = false →
        exec (.payloadReadEnds data) s = .next { s with port := s.port.grantNext, mover := m }) ∧
      (b.bytes.length + n = b.len → b.discard = true → s.stopped = true → s.engine.resend? = none →
        exec (.payloadReadEnds data) s = .next { s with port := s.port.grantNext, mover := { m with buffer := none } }) ∧
      (b.bytes.length + n < b.len → free →
        goesOn (.localTransactionEnds data) s m (b.pos + (b.bytes.length + n)) (b.len - (b.bytes.length + n)) .read)) ∧
    (∀ a bytes (h : HeldPayload) (rest : List HeldPayload),
      s.port.current = some ⟨.mover, .write a bytes, .running⟩ → s.mover.stores = h :: rest → s.mover.buffer = none →
      let mem := Memory.write s.mem a bytes
      let d := h.done + bytes.length
      let left := h.payload.drop d
      let upTo := h.pos + h.payload.length
      let m := { s.mover with working := moved bytes.length, stores := rest }
      let stored : State := { s with
        mem := mem
        engine := { s.engine with writtenSeq := some h.seq, ackDue := true }
        sched := if s.engine.role = .target then s.sched else s.sched.put s.engine.tag.slot { x with
          progress := max x.progress upTo, cursor := if x.form = .list then m.working else x.cursor }
        service := if s.engine.role = .initiator then s.service else { s.service with
          entries := s.service.entries.map fun e =>
            if e.key = s.engine.key then { e with progress := max e.progress upTo } else e } }
      (d < h.payload.length → free →
        goesOn (.localTransactionEnds []) { s with mem := mem } { m with stores := { h with done := d } :: rest }
          (h.pos + d) left.length fun z n => .write z (left.take n)) ∧
      (d = h.payload.length → rest = [] →
        exec .payloadStoreEnds s = .next { stored with mover := m, port := s.port.grantNext }) ∧
      (d = h.payload.length → free → ∀ g tail, rest = g :: tail → g.done = 0 →
        goesOn .payloadStoreEnds stored m g.pos g.payload.length fun z n => .write z (g.payload.take n))) ∧
    (∀ a n data (f : Fetch), s.port.current = some ⟨.walker, .read a n, .running⟩ → s.mover.fetch = some f →
      data.length = n → f.bytes.length + n = 8 →
      ∃ t, exec (.segmentEntryFetched data) s = .next t ∧
        t = { s with engine := t.engine, mover := t.mover, port := t.port } ∧
        t.mover.cache = some ⟨f.index, ofLe ((f.bytes ++ data).take 4), ofLe (((f.bytes ++ data).drop 4).take 2) + 1⟩)

/-- The completion writer (R170, R135, R23, R136, R131, R139). A RUNNING writer with room takes the head of the finished
list: the record's 32 bytes and its more-to-come flag are fixed, the missed-trigger count goes back to 0, and the record
goes to place P. When it is written, P advances, COMPLETION is raised, and the slot is FREE with its generation kept, or
ARMED with its reload values; one that re-arms outside ONLINE ends LEFT at once (log 27). A slot freed is blank but for
its generation (log 30). The writer stalls when the ring is full, and takes its next record in a step of its own,
after the grant that follows the record (logs 31, 55). -/
def Obligations.CompletionWriter : Prop :=
  (∀ s : State,
    let n := s.settings.ringSize
    let room := (s.host.producer + n - s.host.consumer) % n + 1 < n
    let place := s.settings.ringBase + 32 * s.host.producer
    (s.writer.state ≠ .running ∨ s.writer.record ≠ none ∨ s.sched.finished = [] ∨ ¬ room →
      exec .writerTakesRecord s = .next s) ∧
    (s.writer.state = .running → s.writer.record = none → room → place < 4294967296 →
      ∀ i rest, s.sched.finished = i :: rest →
        let x := s.slot i
        let bytes := recordBytesOf i x
        bytes.length = 32 →
        exec .writerTakesRecord s = .next { s with
          writer := { s.writer with record := some ⟨i, x.moreToCome, bytes, 0⟩ }
          sched := s.sched.put i { x with standing := x.standing.map fun st => { st with missed := 0 } }
          port := s.port.asked .writer (.write place (bytes.take (min 32 (64 - place % 64)))) })) ∧
  (∀ (s : State) (a : Nat) (bytes : List Byte) (r : Record),
    s.port.orphans = [] → s.port.current = some ⟨.writer, .write a bytes, .running⟩ → s.writer.record = some r →
    r.done + bytes.length = r.bytes.length → (s.slot r.slot).state = .finished →
    let n := s.settings.ringSize
    let p := (s.host.producer + 1) % n
    let full := n ≤ (p + n - s.host.consumer) % n + 1
    let x := s.slot r.slot
    let out : Scheduler := { s.sched with finished := s.sched.finished.erase r.slot }
    let written : State := { s with
      mem := Memory.write s.mem a bytes, port := s.port.grantNext
      writer := { state := if full then .stalled else s.writer.state, record := none }
      host := { s.host.raised .completion with producer := p } }
    (r.more = false → exec .completionRecordWritten s = .next
      (({ written with sched := out.put r.slot (Slot.blank x.gen) } : State).drainTest)) ∧
    (r.more = true → ∀ st, x.standing = some st →
      let armed : Slot := { x with
        state := .armed, offset := st.reloadOffset, localAddr := st.reloadLocal, length := st.reloadLength
        progress := 0, cursor := ⟨0, 0⟩, outcome := none, moreToCome := false, callOut := false
        cancelRequested := false }
      let sched := if s.station.state = .online then out.put r.slot armed
        else (out.put r.slot armed).ended r.slot .left
      s.sched.ready.erase r.slot = s.sched.ready → exec .completionRecordWritten s = .next { written with sched := sched }))

/-- DRAIN_COMPLETE (R161, R153, R28, R75, R164): a LEAVING station with every slot FREE, an empty Service Table and an IDLE
Engine goes OFFLINE with DRAINED: STATE_CHANGED, the windows disabled, every peer UNKNOWN, the flags clear, nothing driven; its
configured values and its stored notes stay. Otherwise nothing changes. -/
def Obligations.DrainComplete : Prop :=
  ∀ s : State,
    let drained := s.station.state = .leaving ∧ (∀ i, (s.slot i).state = .free) ∧ s.service.entries = [] ∧
      s.engine.phase = .idle
    (drained → exec .drainComplete s = .next { s with
      station := { s.station with state := .offline, cause := .drained, rollcallDue := false, rollcallTimer := none
                                  peers := Vector.replicate 16 ⟨.unknown, 0⟩ }
      bus := { s.bus with holdsLine := false, driving := none, received := none, outbox := [], turn := .none }
      arb := ⟨false, false, none⟩
      service := { s.service with windows := Vector.replicate 8 Window.disabled }
      host := s.host.raised .stateChanged }) ∧
    (¬ drained → exec .drainComplete s = .next s) ∧ (s.drained = true ↔ drained) ∧
    exec .drainComplete s = .next s.drainTest
end

