-- ==== Sys2Proof/Laws/Frames.lean ====
section
/-! SUPPORT. Frames: for each operation on State, the blocks it leaves as they are. An operation that takes an
operation leaves what that one leaves. -/

namespace Sys2Proof.Machine

set_option linter.unnecessarySeqFocus false
set_option linter.unusedSimpArgs false
set_option linter.unusedTactic false
set_option linter.unreachableTactic false

theorem State.foldl_station {α : Type} (f : State → α → State) (h : ∀ s a, (f s a).station = s.station) (l : List α)
    (s : State) :
    (l.foldl f s).station = s.station := by
  induction l generalizing s with
  | nil => rfl
  | cons a l ih => exact (ih _).trans (h s a)

theorem State.foldl_bus {α : Type} (f : State → α → State) (h : ∀ s a, (f s a).bus = s.bus) (l : List α) (s : State) :
    (l.foldl f s).bus = s.bus := by
  induction l generalizing s with
  | nil => rfl
  | cons a l ih => exact (ih _).trans (h s a)

theorem State.foldl_arb {α : Type} (f : State → α → State) (h : ∀ s a, (f s a).arb = s.arb) (l : List α) (s : State) :
    (l.foldl f s).arb = s.arb := by
  induction l generalizing s with
  | nil => rfl
  | cons a l ih => exact (ih _).trans (h s a)

theorem State.foldl_engine {α : Type} (f : State → α → State) (h : ∀ s a, (f s a).engine = s.engine) (l : List α) (s
    : State) :
    (l.foldl f s).engine = s.engine := by
  induction l generalizing s with
  | nil => rfl
  | cons a l ih => exact (ih _).trans (h s a)

theorem State.foldl_sched {α : Type} (f : State → α → State) (h : ∀ s a, (f s a).sched = s.sched) (l : List α) (s :
    State) :
    (l.foldl f s).sched = s.sched := by
  induction l generalizing s with
  | nil => rfl
  | cons a l ih => exact (ih _).trans (h s a)

theorem State.foldl_service {α : Type} (f : State → α → State) (h : ∀ s a, (f s a).service = s.service) (l : List α)
    (s : State) :
    (l.foldl f s).service = s.service := by
  induction l generalizing s with
  | nil => rfl
  | cons a l ih => exact (ih _).trans (h s a)

theorem State.foldl_notes {α : Type} (f : State → α → State) (h : ∀ s a, (f s a).notes = s.notes) (l : List α) (s :
    State) :
    (l.foldl f s).notes = s.notes := by
  induction l generalizing s with
  | nil => rfl
  | cons a l ih => exact (ih _).trans (h s a)

theorem State.foldl_triggers {α : Type} (f : State → α → State) (h : ∀ s a, (f s a).triggers = s.triggers) (l : List
    α) (s : State) :
    (l.foldl f s).triggers = s.triggers := by
  induction l generalizing s with
  | nil => rfl
  | cons a l ih => exact (ih _).trans (h s a)

theorem State.foldl_port {α : Type} (f : State → α → State) (h : ∀ s a, (f s a).port = s.port) (l : List α) (s :
    State) :
    (l.foldl f s).port = s.port := by
  induction l generalizing s with
  | nil => rfl
  | cons a l ih => exact (ih _).trans (h s a)

theorem State.foldl_loader {α : Type} (f : State → α → State) (h : ∀ s a, (f s a).loader = s.loader) (l : List α) (s
    : State) :
    (l.foldl f s).loader = s.loader := by
  induction l generalizing s with
  | nil => rfl
  | cons a l ih => exact (ih _).trans (h s a)

theorem State.foldl_mover {α : Type} (f : State → α → State) (h : ∀ s a, (f s a).mover = s.mover) (l : List α) (s :
    State) :
    (l.foldl f s).mover = s.mover := by
  induction l generalizing s with
  | nil => rfl
  | cons a l ih => exact (ih _).trans (h s a)

theorem State.foldl_writer {α : Type} (f : State → α → State) (h : ∀ s a, (f s a).writer = s.writer) (l : List α) (s
    : State) :
    (l.foldl f s).writer = s.writer := by
  induction l generalizing s with
  | nil => rfl
  | cons a l ih => exact (ih _).trans (h s a)

theorem State.foldl_copier {α : Type} (f : State → α → State) (h : ∀ s a, (f s a).copier = s.copier) (l : List α) (s
    : State) :
    (l.foldl f s).copier = s.copier := by
  induction l generalizing s with
  | nil => rfl
  | cons a l ih => exact (ih _).trans (h s a)

theorem State.foldl_host {α : Type} (f : State → α → State) (h : ∀ s a, (f s a).host = s.host) (l : List α) (s :
    State) :
    (l.foldl f s).host = s.host := by
  induction l generalizing s with
  | nil => rfl
  | cons a l ih => exact (ih _).trans (h s a)

theorem State.foldl_mem {α : Type} (f : State → α → State) (h : ∀ s a, (f s a).mem = s.mem) (l : List α) (s : State) :
    (l.foldl f s).mem = s.mem := by
  induction l generalizing s with
  | nil => rfl
  | cons a l ih => exact (ih _).trans (h s a)

theorem State.foldl_pending {α : Type} (f : State → α → State) (h : ∀ s a, (f s a).pending = s.pending) (l : List α)
    (s : State) :
    (l.foldl f s).pending = s.pending := by
  induction l generalizing s with
  | nil => rfl
  | cons a l ih => exact (ih _).trans (h s a)

@[simp] theorem State.raise_frame (e : Event) (s : State) :
    (State.raise e s).station = s.station ∧ (State.raise e s).bus = s.bus ∧ (State.raise e s).arb = s.arb ∧
    (State.raise e s).engine = s.engine ∧ (State.raise e s).sched = s.sched ∧
    (State.raise e s).service = s.service ∧ (State.raise e s).notes = s.notes ∧
    (State.raise e s).triggers = s.triggers ∧ (State.raise e s).port = s.port ∧
    (State.raise e s).loader = s.loader ∧ (State.raise e s).mover = s.mover ∧ (State.raise e s).writer = s.writer ∧
    (State.raise e s).copier = s.copier ∧ (State.raise e s).mem = s.mem ∧
    (State.raise e s).pending = s.pending := by
  unfold State.raise; (repeat' split) <;> simp

@[simp] theorem State.raiseIf_frame (c : Bool) (e : Event) (s : State) :
    (State.raiseIf c e s).station = s.station ∧ (State.raiseIf c e s).bus = s.bus ∧
    (State.raiseIf c e s).arb = s.arb ∧ (State.raiseIf c e s).engine = s.engine ∧
    (State.raiseIf c e s).sched = s.sched ∧ (State.raiseIf c e s).service = s.service ∧
    (State.raiseIf c e s).notes = s.notes ∧ (State.raiseIf c e s).triggers = s.triggers ∧
    (State.raiseIf c e s).port = s.port ∧ (State.raiseIf c e s).loader = s.loader ∧
    (State.raiseIf c e s).mover = s.mover ∧ (State.raiseIf c e s).writer = s.writer ∧
    (State.raiseIf c e s).copier = s.copier ∧ (State.raiseIf c e s).mem = s.mem ∧
    (State.raiseIf c e s).pending = s.pending := by
  unfold State.raiseIf; (repeat' split) <;> simp

@[simp] theorem State.setSlot_frame (s : State) (i : SlotId) (x : Slot) :
    (s.setSlot i x).station = s.station ∧ (s.setSlot i x).bus = s.bus ∧ (s.setSlot i x).arb = s.arb ∧
    (s.setSlot i x).engine = s.engine ∧ (s.setSlot i x).service = s.service ∧ (s.setSlot i x).notes = s.notes ∧
    (s.setSlot i x).triggers = s.triggers ∧ (s.setSlot i x).port = s.port ∧ (s.setSlot i x).loader = s.loader ∧
    (s.setSlot i x).mover = s.mover ∧ (s.setSlot i x).writer = s.writer ∧ (s.setSlot i x).copier = s.copier ∧
    (s.setSlot i x).host = s.host ∧ (s.setSlot i x).mem = s.mem ∧ (s.setSlot i x).pending = s.pending := by
  unfold State.setSlot; (repeat' split) <;> simp

@[simp] theorem State.setHold_frame (s : State) (w : WindowId) (h : HoldState) :
    (s.setHold w h).station = s.station ∧ (s.setHold w h).bus = s.bus ∧ (s.setHold w h).arb = s.arb ∧
    (s.setHold w h).engine = s.engine ∧ (s.setHold w h).sched = s.sched ∧ (s.setHold w h).notes = s.notes ∧
    (s.setHold w h).triggers = s.triggers ∧ (s.setHold w h).port = s.port ∧ (s.setHold w h).loader = s.loader ∧
    (s.setHold w h).mover = s.mover ∧ (s.setHold w h).writer = s.writer ∧ (s.setHold w h).copier = s.copier ∧
    (s.setHold w h).host = s.host ∧ (s.setHold w h).mem = s.mem ∧ (s.setHold w h).pending = s.pending := by
  unfold State.setHold; (repeat' split) <;> simp

@[simp] theorem State.setPeer_frame (s : State) (p : StationId) (x : Peer) :
    (s.setPeer p x).bus = s.bus ∧ (s.setPeer p x).arb = s.arb ∧ (s.setPeer p x).engine = s.engine ∧
    (s.setPeer p x).sched = s.sched ∧ (s.setPeer p x).service = s.service ∧ (s.setPeer p x).notes = s.notes ∧
    (s.setPeer p x).triggers = s.triggers ∧ (s.setPeer p x).port = s.port ∧ (s.setPeer p x).loader = s.loader ∧
    (s.setPeer p x).mover = s.mover ∧ (s.setPeer p x).writer = s.writer ∧ (s.setPeer p x).copier = s.copier ∧
    (s.setPeer p x).host = s.host ∧ (s.setPeer p x).mem = s.mem ∧ (s.setPeer p x).pending = s.pending := by
  unfold State.setPeer; (repeat' split) <;> simp

@[simp] theorem State.updateEntry_frame (s : State) (k : Key) (f : Entry → Entry) :
    (s.updateEntry k f).station = s.station ∧ (s.updateEntry k f).bus = s.bus ∧ (s.updateEntry k f).arb = s.arb ∧
    (s.updateEntry k f).engine = s.engine ∧ (s.updateEntry k f).sched = s.sched ∧
    (s.updateEntry k f).notes = s.notes ∧ (s.updateEntry k f).triggers = s.triggers ∧
    (s.updateEntry k f).port = s.port ∧ (s.updateEntry k f).loader = s.loader ∧
    (s.updateEntry k f).mover = s.mover ∧ (s.updateEntry k f).writer = s.writer ∧
    (s.updateEntry k f).copier = s.copier ∧ (s.updateEntry k f).host = s.host ∧ (s.updateEntry k f).mem = s.mem ∧
    (s.updateEntry k f).pending = s.pending := by
  unfold State.updateEntry; (repeat' split) <;> simp

@[simp] theorem State.finish_frame (s : State) (command : Byte) (code : ResultCode) (detail : Nat) :
    (s.finish command code detail).station = s.station ∧ (s.finish command code detail).bus = s.bus ∧
    (s.finish command code detail).arb = s.arb ∧ (s.finish command code detail).engine = s.engine ∧
    (s.finish command code detail).sched = s.sched ∧ (s.finish command code detail).service = s.service ∧
    (s.finish command code detail).notes = s.notes ∧ (s.finish command code detail).triggers = s.triggers ∧
    (s.finish command code detail).port = s.port ∧ (s.finish command code detail).loader = s.loader ∧
    (s.finish command code detail).mover = s.mover ∧ (s.finish command code detail).writer = s.writer ∧
    (s.finish command code detail).copier = s.copier ∧ (s.finish command code detail).mem = s.mem ∧
    (s.finish command code detail).pending = s.pending := by
  unfold State.finish; (repeat' split) <;> simp

@[simp] theorem State.releaseLine_frame (s : State) :
    (s.releaseLine).station = s.station ∧ (s.releaseLine).engine = s.engine ∧ (s.releaseLine).sched = s.sched ∧
    (s.releaseLine).service = s.service ∧ (s.releaseLine).notes = s.notes ∧ (s.releaseLine).triggers = s.triggers ∧
    (s.releaseLine).port = s.port ∧ (s.releaseLine).loader = s.loader ∧ (s.releaseLine).mover = s.mover ∧
    (s.releaseLine).writer = s.writer ∧ (s.releaseLine).copier = s.copier ∧ (s.releaseLine).host = s.host ∧
    (s.releaseLine).mem = s.mem ∧ (s.releaseLine).pending = s.pending := by
  unfold State.releaseLine; (repeat' split) <;> simp

@[simp] theorem State.enterFree_frame (s : State) :
    (s.enterFree).station = s.station ∧ (s.enterFree).arb = s.arb ∧ (s.enterFree).engine = s.engine ∧
    (s.enterFree).sched = s.sched ∧ (s.enterFree).service = s.service ∧ (s.enterFree).notes = s.notes ∧
    (s.enterFree).triggers = s.triggers ∧ (s.enterFree).port = s.port ∧ (s.enterFree).loader = s.loader ∧
    (s.enterFree).mover = s.mover ∧ (s.enterFree).writer = s.writer ∧ (s.enterFree).copier = s.copier ∧
    (s.enterFree).host = s.host ∧ (s.enterFree).mem = s.mem ∧ (s.enterFree).pending = s.pending := by
  unfold State.enterFree; (repeat' split) <;> simp

@[simp] theorem State.drive_frame (s : State) (f : Frame) :
    (s.drive f).station = s.station ∧ (s.drive f).arb = s.arb ∧ (s.drive f).engine = s.engine ∧
    (s.drive f).sched = s.sched ∧ (s.drive f).service = s.service ∧ (s.drive f).notes = s.notes ∧
    (s.drive f).triggers = s.triggers ∧ (s.drive f).port = s.port ∧ (s.drive f).loader = s.loader ∧
    (s.drive f).mover = s.mover ∧ (s.drive f).writer = s.writer ∧ (s.drive f).copier = s.copier ∧
    (s.drive f).host = s.host ∧ (s.drive f).mem = s.mem ∧ (s.drive f).pending = s.pending := by
  unfold State.drive; (repeat' split) <;> simp

@[simp] theorem State.beginClosing_frame (s : State) :
    (s.beginClosing).station = s.station ∧ (s.beginClosing).arb = s.arb ∧ (s.beginClosing).engine = s.engine ∧
    (s.beginClosing).sched = s.sched ∧ (s.beginClosing).service = s.service ∧ (s.beginClosing).notes = s.notes ∧
    (s.beginClosing).triggers = s.triggers ∧ (s.beginClosing).port = s.port ∧ (s.beginClosing).loader = s.loader ∧
    (s.beginClosing).mover = s.mover ∧ (s.beginClosing).writer = s.writer ∧ (s.beginClosing).copier = s.copier ∧
    (s.beginClosing).host = s.host ∧ (s.beginClosing).mem = s.mem ∧ (s.beginClosing).pending = s.pending := by
  unfold State.beginClosing; (repeat' split) <;> simp

@[simp] theorem State.pump_frame (s : State) :
    (s.pump).station = s.station ∧ (s.pump).arb = s.arb ∧ (s.pump).engine = s.engine ∧ (s.pump).sched = s.sched ∧
    (s.pump).service = s.service ∧ (s.pump).notes = s.notes ∧ (s.pump).triggers = s.triggers ∧
    (s.pump).port = s.port ∧ (s.pump).loader = s.loader ∧ (s.pump).mover = s.mover ∧ (s.pump).writer = s.writer ∧
    (s.pump).copier = s.copier ∧ (s.pump).host = s.host ∧ (s.pump).mem = s.mem ∧ (s.pump).pending = s.pending := by
  unfold State.pump; (repeat' split) <;> simp

@[simp] theorem State.send_frame (s : State) (f : Frame) :
    (s.send f).station = s.station ∧ (s.send f).arb = s.arb ∧ (s.send f).engine = s.engine ∧
    (s.send f).sched = s.sched ∧ (s.send f).service = s.service ∧ (s.send f).notes = s.notes ∧
    (s.send f).triggers = s.triggers ∧ (s.send f).port = s.port ∧ (s.send f).loader = s.loader ∧
    (s.send f).mover = s.mover ∧ (s.send f).writer = s.writer ∧ (s.send f).copier = s.copier ∧
    (s.send f).host = s.host ∧ (s.send f).mem = s.mem ∧ (s.send f).pending = s.pending := by
  unfold State.send; (repeat' split) <;> simp

@[simp] theorem State.sendBody_frame (s : State) (b : Body) :
    (s.sendBody b).station = s.station ∧ (s.sendBody b).arb = s.arb ∧ (s.sendBody b).engine = s.engine ∧
    (s.sendBody b).sched = s.sched ∧ (s.sendBody b).service = s.service ∧ (s.sendBody b).notes = s.notes ∧
    (s.sendBody b).triggers = s.triggers ∧ (s.sendBody b).port = s.port ∧ (s.sendBody b).loader = s.loader ∧
    (s.sendBody b).mover = s.mover ∧ (s.sendBody b).writer = s.writer ∧ (s.sendBody b).copier = s.copier ∧
    (s.sendBody b).host = s.host ∧ (s.sendBody b).mem = s.mem ∧ (s.sendBody b).pending = s.pending := by
  unfold State.sendBody; (repeat' split) <;> simp

@[simp] theorem State.dropWaiting_frame (s : State) :
    (s.dropWaiting).station = s.station ∧ (s.dropWaiting).arb = s.arb ∧ (s.dropWaiting).engine = s.engine ∧
    (s.dropWaiting).sched = s.sched ∧ (s.dropWaiting).service = s.service ∧ (s.dropWaiting).notes = s.notes ∧
    (s.dropWaiting).triggers = s.triggers ∧ (s.dropWaiting).port = s.port ∧ (s.dropWaiting).loader = s.loader ∧
    (s.dropWaiting).mover = s.mover ∧ (s.dropWaiting).writer = s.writer ∧ (s.dropWaiting).copier = s.copier ∧
    (s.dropWaiting).host = s.host ∧ (s.dropWaiting).mem = s.mem ∧ (s.dropWaiting).pending = s.pending := by
  unfold State.dropWaiting; (repeat' split) <;> simp

@[simp] theorem State.engineIdle_frame (s : State) :
    (s.engineIdle).station = s.station ∧ (s.engineIdle).arb = s.arb ∧ (s.engineIdle).sched = s.sched ∧
    (s.engineIdle).service = s.service ∧ (s.engineIdle).triggers = s.triggers ∧ (s.engineIdle).loader = s.loader ∧
    (s.engineIdle).writer = s.writer ∧ (s.engineIdle).copier = s.copier ∧ (s.engineIdle).host = s.host ∧
    (s.engineIdle).mem = s.mem ∧ (s.engineIdle).pending = s.pending := by
  unfold State.engineIdle; (repeat' split) <;> simp

@[simp] theorem State.leaveConnection_frame (s : State) :
    (s.leaveConnection).station = s.station ∧ (s.leaveConnection).sched = s.sched ∧
    (s.leaveConnection).service = s.service ∧ (s.leaveConnection).triggers = s.triggers ∧
    (s.leaveConnection).loader = s.loader ∧ (s.leaveConnection).writer = s.writer ∧
    (s.leaveConnection).copier = s.copier ∧ (s.leaveConnection).host = s.host ∧ (s.leaveConnection).mem = s.mem ∧
    (s.leaveConnection).pending = s.pending := by
  unfold State.leaveConnection; (repeat' split) <;> simp

@[simp] theorem State.markGone_frame (s : State) (w : Want) :
    (s.markGone w).station = s.station ∧ (s.markGone w).bus = s.bus ∧ (s.markGone w).engine = s.engine ∧
    (s.markGone w).sched = s.sched ∧ (s.markGone w).service = s.service ∧ (s.markGone w).notes = s.notes ∧
    (s.markGone w).triggers = s.triggers ∧ (s.markGone w).port = s.port ∧ (s.markGone w).loader = s.loader ∧
    (s.markGone w).mover = s.mover ∧ (s.markGone w).writer = s.writer ∧ (s.markGone w).copier = s.copier ∧
    (s.markGone w).host = s.host ∧ (s.markGone w).mem = s.mem ∧ (s.markGone w).pending = s.pending := by
  unfold State.markGone; (repeat' split) <;> simp

@[simp] theorem State.callGone_frame (s : State) :
    (s.callGone).station = s.station ∧ (s.callGone).sched = s.sched ∧ (s.callGone).service = s.service ∧
    (s.callGone).triggers = s.triggers ∧ (s.callGone).loader = s.loader ∧ (s.callGone).writer = s.writer ∧
    (s.callGone).copier = s.copier ∧ (s.callGone).host = s.host ∧ (s.callGone).mem = s.mem ∧
    (s.callGone).pending = s.pending := by
  unfold State.callGone; (repeat' split) <;> simp

@[simp] theorem State.slotWantGone_frame (s : State) (i : SlotId) :
    (s.slotWantGone i).station = s.station ∧ (s.slotWantGone i).sched = s.sched ∧
    (s.slotWantGone i).service = s.service ∧ (s.slotWantGone i).triggers = s.triggers ∧
    (s.slotWantGone i).loader = s.loader ∧ (s.slotWantGone i).writer = s.writer ∧
    (s.slotWantGone i).copier = s.copier ∧ (s.slotWantGone i).host = s.host ∧ (s.slotWantGone i).mem = s.mem ∧
    (s.slotWantGone i).pending = s.pending := by
  unfold State.slotWantGone; dsimp only; (repeat' split) <;> simp

@[simp] theorem State.entryWantGone_frame (s : State) (k : Key) :
    (s.entryWantGone k).station = s.station ∧ (s.entryWantGone k).sched = s.sched ∧
    (s.entryWantGone k).service = s.service ∧ (s.entryWantGone k).triggers = s.triggers ∧
    (s.entryWantGone k).loader = s.loader ∧ (s.entryWantGone k).writer = s.writer ∧
    (s.entryWantGone k).copier = s.copier ∧ (s.entryWantGone k).host = s.host ∧ (s.entryWantGone k).mem = s.mem ∧
    (s.entryWantGone k).pending = s.pending := by
  unfold State.entryWantGone; dsimp only; (repeat' split) <;> simp

@[simp] theorem State.modSlot_frame (s : State) (i : SlotId) (f : Slot → Slot) :
    (s.modSlot i f).station = s.station ∧ (s.modSlot i f).bus = s.bus ∧ (s.modSlot i f).arb = s.arb ∧
    (s.modSlot i f).engine = s.engine ∧ (s.modSlot i f).service = s.service ∧ (s.modSlot i f).notes = s.notes ∧
    (s.modSlot i f).triggers = s.triggers ∧ (s.modSlot i f).port = s.port ∧ (s.modSlot i f).loader = s.loader ∧
    (s.modSlot i f).mover = s.mover ∧ (s.modSlot i f).writer = s.writer ∧ (s.modSlot i f).copier = s.copier ∧
    (s.modSlot i f).host = s.host ∧ (s.modSlot i f).mem = s.mem ∧ (s.modSlot i f).pending = s.pending := by
  unfold State.modSlot; (repeat' split) <;> simp

@[simp] theorem State.finishSlot_frame (s : State) (i : SlotId) (o : ExchangeOutcome) :
    (s.finishSlot i o).station = s.station ∧ (s.finishSlot i o).bus = s.bus ∧ (s.finishSlot i o).arb = s.arb ∧
    (s.finishSlot i o).engine = s.engine ∧ (s.finishSlot i o).service = s.service ∧
    (s.finishSlot i o).notes = s.notes ∧ (s.finishSlot i o).triggers = s.triggers ∧
    (s.finishSlot i o).port = s.port ∧ (s.finishSlot i o).loader = s.loader ∧ (s.finishSlot i o).mover = s.mover ∧
    (s.finishSlot i o).writer = s.writer ∧ (s.finishSlot i o).copier = s.copier ∧ (s.finishSlot i o).host = s.host ∧
    (s.finishSlot i o).mem = s.mem ∧ (s.finishSlot i o).pending = s.pending := by
  unfold State.finishSlot; dsimp only; (repeat' split) <;> simp

@[simp] theorem State.queueSlot_frame (s : State) (i : SlotId) :
    (s.queueSlot i).station = s.station ∧ (s.queueSlot i).bus = s.bus ∧ (s.queueSlot i).arb = s.arb ∧
    (s.queueSlot i).engine = s.engine ∧ (s.queueSlot i).service = s.service ∧ (s.queueSlot i).notes = s.notes ∧
    (s.queueSlot i).triggers = s.triggers ∧ (s.queueSlot i).port = s.port ∧ (s.queueSlot i).loader = s.loader ∧
    (s.queueSlot i).mover = s.mover ∧ (s.queueSlot i).writer = s.writer ∧ (s.queueSlot i).copier = s.copier ∧
    (s.queueSlot i).host = s.host ∧ (s.queueSlot i).mem = s.mem ∧ (s.queueSlot i).pending = s.pending := by
  unfold State.queueSlot; dsimp only; (repeat' split) <;> simp

@[simp] theorem State.disconnectSlot_frame (s : State) (i : SlotId) :
    (s.disconnectSlot i).station = s.station ∧ (s.disconnectSlot i).bus = s.bus ∧ (s.disconnectSlot i).arb = s.arb ∧
    (s.disconnectSlot i).engine = s.engine ∧ (s.disconnectSlot i).service = s.service ∧
    (s.disconnectSlot i).notes = s.notes ∧ (s.disconnectSlot i).triggers = s.triggers ∧
    (s.disconnectSlot i).port = s.port ∧ (s.disconnectSlot i).loader = s.loader ∧
    (s.disconnectSlot i).mover = s.mover ∧ (s.disconnectSlot i).writer = s.writer ∧
    (s.disconnectSlot i).copier = s.copier ∧ (s.disconnectSlot i).host = s.host ∧ (s.disconnectSlot i).mem = s.mem ∧
    (s.disconnectSlot i).pending = s.pending := by
  unfold State.disconnectSlot; dsimp only; (repeat' split) <;> simp

@[simp] theorem State.finishWhere_frame (s : State) (p : Slot → Bool) (o : ExchangeOutcome) :
    (s.finishWhere p o).station = s.station ∧ (s.finishWhere p o).bus = s.bus ∧ (s.finishWhere p o).arb = s.arb ∧
    (s.finishWhere p o).engine = s.engine ∧ (s.finishWhere p o).service = s.service ∧
    (s.finishWhere p o).notes = s.notes ∧ (s.finishWhere p o).triggers = s.triggers ∧
    (s.finishWhere p o).port = s.port ∧ (s.finishWhere p o).loader = s.loader ∧
    (s.finishWhere p o).mover = s.mover ∧ (s.finishWhere p o).writer = s.writer ∧
    (s.finishWhere p o).copier = s.copier ∧ (s.finishWhere p o).host = s.host ∧ (s.finishWhere p o).mem = s.mem ∧
    (s.finishWhere p o).pending = s.pending := by
  unfold State.finishWhere; and_intros <;> simp [State.foldl_station, State.foldl_bus, State.foldl_arb,
      State.foldl_engine, State.foldl_sched, State.foldl_service, State.foldl_notes, State.foldl_triggers,
      State.foldl_port, State.foldl_loader, State.foldl_mover, State.foldl_writer, State.foldl_copier, State.foldl_host,
      State.foldl_mem, State.foldl_pending, apply_ite]

@[simp] theorem State.requeueOrLeave_frame (s : State) (i : SlotId) :
    (s.requeueOrLeave i).station = s.station ∧ (s.requeueOrLeave i).bus = s.bus ∧ (s.requeueOrLeave i).arb = s.arb ∧
    (s.requeueOrLeave i).engine = s.engine ∧ (s.requeueOrLeave i).service = s.service ∧
    (s.requeueOrLeave i).notes = s.notes ∧ (s.requeueOrLeave i).triggers = s.triggers ∧
    (s.requeueOrLeave i).port = s.port ∧ (s.requeueOrLeave i).loader = s.loader ∧
    (s.requeueOrLeave i).mover = s.mover ∧ (s.requeueOrLeave i).writer = s.writer ∧
    (s.requeueOrLeave i).copier = s.copier ∧ (s.requeueOrLeave i).host = s.host ∧ (s.requeueOrLeave i).mem = s.mem ∧
    (s.requeueOrLeave i).pending = s.pending := by
  unfold State.requeueOrLeave; (repeat' split) <;> simp

@[simp] theorem State.callRefused_frame (s : State) (i : SlotId) (r : RefuseReason) :
    (s.callRefused i r).station = s.station ∧ (s.callRefused i r).bus = s.bus ∧ (s.callRefused i r).arb = s.arb ∧
    (s.callRefused i r).engine = s.engine ∧ (s.callRefused i r).service = s.service ∧
    (s.callRefused i r).notes = s.notes ∧ (s.callRefused i r).triggers = s.triggers ∧
    (s.callRefused i r).port = s.port ∧ (s.callRefused i r).loader = s.loader ∧
    (s.callRefused i r).mover = s.mover ∧ (s.callRefused i r).writer = s.writer ∧
    (s.callRefused i r).copier = s.copier ∧ (s.callRefused i r).host = s.host ∧ (s.callRefused i r).mem = s.mem ∧
    (s.callRefused i r).pending = s.pending := by
  unfold State.callRefused; dsimp only; (repeat' split) <;> simp

@[simp] theorem State.callUnanswered_frame (s : State) (i : SlotId) :
    (s.callUnanswered i).station = s.station ∧ (s.callUnanswered i).bus = s.bus ∧ (s.callUnanswered i).arb = s.arb ∧
    (s.callUnanswered i).engine = s.engine ∧ (s.callUnanswered i).service = s.service ∧
    (s.callUnanswered i).notes = s.notes ∧ (s.callUnanswered i).triggers = s.triggers ∧
    (s.callUnanswered i).port = s.port ∧ (s.callUnanswered i).loader = s.loader ∧
    (s.callUnanswered i).mover = s.mover ∧ (s.callUnanswered i).writer = s.writer ∧
    (s.callUnanswered i).copier = s.copier ∧ (s.callUnanswered i).host = s.host ∧ (s.callUnanswered i).mem = s.mem ∧
    (s.callUnanswered i).pending = s.pending := by
  unfold State.callUnanswered; dsimp only; (repeat' split) <;> simp

@[simp] theorem State.callCollided_frame (s : State) (i : SlotId) :
    (s.callCollided i).station = s.station ∧ (s.callCollided i).bus = s.bus ∧ (s.callCollided i).arb = s.arb ∧
    (s.callCollided i).engine = s.engine ∧ (s.callCollided i).service = s.service ∧
    (s.callCollided i).notes = s.notes ∧ (s.callCollided i).triggers = s.triggers ∧
    (s.callCollided i).port = s.port ∧ (s.callCollided i).loader = s.loader ∧ (s.callCollided i).mover = s.mover ∧
    (s.callCollided i).writer = s.writer ∧ (s.callCollided i).copier = s.copier ∧ (s.callCollided i).host = s.host ∧
    (s.callCollided i).mem = s.mem ∧ (s.callCollided i).pending = s.pending := by
  unfold State.callCollided; dsimp only; (repeat' split) <;> simp

@[simp] theorem State.callHeld_frame (s : State) (i : SlotId) :
    (s.callHeld i).station = s.station ∧ (s.callHeld i).bus = s.bus ∧ (s.callHeld i).arb = s.arb ∧
    (s.callHeld i).engine = s.engine ∧ (s.callHeld i).service = s.service ∧ (s.callHeld i).notes = s.notes ∧
    (s.callHeld i).triggers = s.triggers ∧ (s.callHeld i).port = s.port ∧ (s.callHeld i).loader = s.loader ∧
    (s.callHeld i).mover = s.mover ∧ (s.callHeld i).writer = s.writer ∧ (s.callHeld i).copier = s.copier ∧
    (s.callHeld i).host = s.host ∧ (s.callHeld i).mem = s.mem ∧ (s.callHeld i).pending = s.pending := by
  unfold State.callHeld; dsimp only; (repeat' split) <;> simp

@[simp] theorem State.activateSlot_frame (s : State) (i : SlotId) :
    (s.activateSlot i).station = s.station ∧ (s.activateSlot i).bus = s.bus ∧ (s.activateSlot i).arb = s.arb ∧
    (s.activateSlot i).engine = s.engine ∧ (s.activateSlot i).service = s.service ∧
    (s.activateSlot i).notes = s.notes ∧ (s.activateSlot i).triggers = s.triggers ∧
    (s.activateSlot i).port = s.port ∧ (s.activateSlot i).loader = s.loader ∧ (s.activateSlot i).mover = s.mover ∧
    (s.activateSlot i).writer = s.writer ∧ (s.activateSlot i).copier = s.copier ∧ (s.activateSlot i).host = s.host ∧
    (s.activateSlot i).mem = s.mem ∧ (s.activateSlot i).pending = s.pending := by
  unfold State.activateSlot; dsimp only; (repeat' split) <;> simp

@[simp] theorem State.cancelSlot_frame (s : State) (i : SlotId) :
    (s.cancelSlot i).station = s.station ∧ (s.cancelSlot i).service = s.service ∧
    (s.cancelSlot i).triggers = s.triggers ∧ (s.cancelSlot i).loader = s.loader ∧
    (s.cancelSlot i).writer = s.writer ∧ (s.cancelSlot i).copier = s.copier ∧ (s.cancelSlot i).host = s.host ∧
    (s.cancelSlot i).mem = s.mem ∧ (s.cancelSlot i).pending = s.pending := by
  unfold State.cancelSlot; dsimp only; (repeat' split) <;> simp

@[simp] theorem State.stopSlot_frame (s : State) (i : SlotId) (st : Standing) :
    (s.stopSlot i st).station = s.station ∧ (s.stopSlot i st).bus = s.bus ∧ (s.stopSlot i st).arb = s.arb ∧
    (s.stopSlot i st).engine = s.engine ∧ (s.stopSlot i st).service = s.service ∧
    (s.stopSlot i st).notes = s.notes ∧ (s.stopSlot i st).triggers = s.triggers ∧ (s.stopSlot i st).port = s.port ∧
    (s.stopSlot i st).loader = s.loader ∧ (s.stopSlot i st).mover = s.mover ∧ (s.stopSlot i st).writer = s.writer ∧
    (s.stopSlot i st).copier = s.copier ∧ (s.stopSlot i st).host = s.host ∧ (s.stopSlot i st).mem = s.mem ∧
    (s.stopSlot i st).pending = s.pending := by
  unfold State.stopSlot; dsimp only; (repeat' split) <;> simp

@[simp] theorem State.edgeArmed_frame (s : State) (i : SlotId) (st : Standing) :
    (s.edgeArmed i st).station = s.station ∧ (s.edgeArmed i st).bus = s.bus ∧ (s.edgeArmed i st).arb = s.arb ∧
    (s.edgeArmed i st).engine = s.engine ∧ (s.edgeArmed i st).service = s.service ∧
    (s.edgeArmed i st).notes = s.notes ∧ (s.edgeArmed i st).triggers = s.triggers ∧
    (s.edgeArmed i st).port = s.port ∧ (s.edgeArmed i st).loader = s.loader ∧ (s.edgeArmed i st).mover = s.mover ∧
    (s.edgeArmed i st).writer = s.writer ∧ (s.edgeArmed i st).copier = s.copier ∧ (s.edgeArmed i st).host = s.host ∧
    (s.edgeArmed i st).mem = s.mem ∧ (s.edgeArmed i st).pending = s.pending := by
  unfold State.edgeArmed; dsimp only; (repeat' split) <;> simp

@[simp] theorem State.edgeSlot_frame (l : TriggerLine) (s : State) (i : SlotId) :
    (State.edgeSlot l s i).station = s.station ∧ (State.edgeSlot l s i).bus = s.bus ∧
    (State.edgeSlot l s i).arb = s.arb ∧ (State.edgeSlot l s i).engine = s.engine ∧
    (State.edgeSlot l s i).service = s.service ∧ (State.edgeSlot l s i).notes = s.notes ∧
    (State.edgeSlot l s i).triggers = s.triggers ∧ (State.edgeSlot l s i).port = s.port ∧
    (State.edgeSlot l s i).loader = s.loader ∧ (State.edgeSlot l s i).mover = s.mover ∧
    (State.edgeSlot l s i).writer = s.writer ∧ (State.edgeSlot l s i).copier = s.copier ∧
    (State.edgeSlot l s i).host = s.host ∧ (State.edgeSlot l s i).mem = s.mem ∧
    (State.edgeSlot l s i).pending = s.pending := by
  unfold State.edgeSlot; dsimp only; (repeat' split) <;> simp

@[simp] theorem State.peerSilentSlots_frame (s : State) (p : StationId) :
    (s.peerSilentSlots p).station = s.station ∧ (s.peerSilentSlots p).service = s.service ∧
    (s.peerSilentSlots p).triggers = s.triggers ∧ (s.peerSilentSlots p).loader = s.loader ∧
    (s.peerSilentSlots p).writer = s.writer ∧ (s.peerSilentSlots p).copier = s.copier ∧
    (s.peerSilentSlots p).host = s.host ∧ (s.peerSilentSlots p).mem = s.mem ∧
    (s.peerSilentSlots p).pending = s.pending := by
  unfold State.peerSilentSlots; dsimp only; (repeat' split) <;> simp

@[simp] theorem State.busResetSlots_frame (s : State) :
    (s.busResetSlots).station = s.station ∧ (s.busResetSlots).bus = s.bus ∧ (s.busResetSlots).arb = s.arb ∧
    (s.busResetSlots).engine = s.engine ∧ (s.busResetSlots).service = s.service ∧
    (s.busResetSlots).notes = s.notes ∧ (s.busResetSlots).triggers = s.triggers ∧ (s.busResetSlots).port = s.port ∧
    (s.busResetSlots).loader = s.loader ∧ (s.busResetSlots).mover = s.mover ∧ (s.busResetSlots).writer = s.writer ∧
    (s.busResetSlots).copier = s.copier ∧ (s.busResetSlots).host = s.host ∧ (s.busResetSlots).mem = s.mem ∧
    (s.busResetSlots).pending = s.pending := by
  unfold State.busResetSlots; (repeat' split) <;> simp

@[simp] theorem State.leaveSlots_frame (s : State) :
    (s.leaveSlots).station = s.station ∧ (s.leaveSlots).service = s.service ∧ (s.leaveSlots).triggers = s.triggers ∧
    (s.leaveSlots).loader = s.loader ∧ (s.leaveSlots).writer = s.writer ∧ (s.leaveSlots).copier = s.copier ∧
    (s.leaveSlots).host = s.host ∧ (s.leaveSlots).mem = s.mem ∧ (s.leaveSlots).pending = s.pending := by
  unfold State.leaveSlots; dsimp only; (repeat' split) <;> simp [State.foldl_station, State.foldl_bus,
      State.foldl_arb, State.foldl_engine, State.foldl_sched, State.foldl_service, State.foldl_notes,
      State.foldl_triggers, State.foldl_port, State.foldl_loader, State.foldl_mover, State.foldl_writer,
      State.foldl_copier, State.foldl_host, State.foldl_mem, State.foldl_pending]

@[simp] theorem State.conflictSlots_frame (s : State) :
    (s.conflictSlots).station = s.station ∧ (s.conflictSlots).bus = s.bus ∧ (s.conflictSlots).arb = s.arb ∧
    (s.conflictSlots).engine = s.engine ∧ (s.conflictSlots).service = s.service ∧
    (s.conflictSlots).notes = s.notes ∧ (s.conflictSlots).triggers = s.triggers ∧ (s.conflictSlots).port = s.port ∧
    (s.conflictSlots).loader = s.loader ∧ (s.conflictSlots).mover = s.mover ∧ (s.conflictSlots).writer = s.writer ∧
    (s.conflictSlots).copier = s.copier ∧ (s.conflictSlots).host = s.host ∧ (s.conflictSlots).mem = s.mem ∧
    (s.conflictSlots).pending = s.pending := by
  unfold State.conflictSlots; (repeat' split) <;> simp

@[simp] theorem State.recordWritten_frame (s : State) (i : SlotId) (more : Bool) :
    (s.recordWritten i more).station = s.station ∧ (s.recordWritten i more).bus = s.bus ∧
    (s.recordWritten i more).arb = s.arb ∧ (s.recordWritten i more).engine = s.engine ∧
    (s.recordWritten i more).service = s.service ∧ (s.recordWritten i more).notes = s.notes ∧
    (s.recordWritten i more).triggers = s.triggers ∧ (s.recordWritten i more).port = s.port ∧
    (s.recordWritten i more).loader = s.loader ∧ (s.recordWritten i more).mover = s.mover ∧
    (s.recordWritten i more).writer = s.writer ∧ (s.recordWritten i more).copier = s.copier ∧
    (s.recordWritten i more).host = s.host ∧ (s.recordWritten i more).mem = s.mem ∧
    (s.recordWritten i more).pending = s.pending := by
  unfold State.recordWritten; dsimp only; (repeat' split) <;> simp

@[simp] theorem State.windowCheck_frame (s : State) (w : WindowId) :
    (s.windowCheck w).station = s.station ∧ (s.windowCheck w).bus = s.bus ∧ (s.windowCheck w).arb = s.arb ∧
    (s.windowCheck w).engine = s.engine ∧ (s.windowCheck w).sched = s.sched ∧ (s.windowCheck w).notes = s.notes ∧
    (s.windowCheck w).triggers = s.triggers ∧ (s.windowCheck w).port = s.port ∧
    (s.windowCheck w).loader = s.loader ∧ (s.windowCheck w).mover = s.mover ∧ (s.windowCheck w).writer = s.writer ∧
    (s.windowCheck w).copier = s.copier ∧ (s.windowCheck w).mem = s.mem ∧
    (s.windowCheck w).pending = s.pending := by
  unfold State.windowCheck; (repeat' split) <;> simp

@[simp] theorem State.queueEntry_frame (s : State) (k : Key) (f : Entry → Entry) :
    (s.queueEntry k f).station = s.station ∧ (s.queueEntry k f).bus = s.bus ∧ (s.queueEntry k f).arb = s.arb ∧
    (s.queueEntry k f).engine = s.engine ∧ (s.queueEntry k f).sched = s.sched ∧ (s.queueEntry k f).notes = s.notes ∧
    (s.queueEntry k f).triggers = s.triggers ∧ (s.queueEntry k f).port = s.port ∧
    (s.queueEntry k f).loader = s.loader ∧ (s.queueEntry k f).mover = s.mover ∧
    (s.queueEntry k f).writer = s.writer ∧ (s.queueEntry k f).copier = s.copier ∧ (s.queueEntry k f).host = s.host ∧
    (s.queueEntry k f).mem = s.mem ∧ (s.queueEntry k f).pending = s.pending := by
  unfold State.queueEntry; (repeat' split) <;> simp

@[simp] theorem State.readyEntry_frame (s : State) (k : Key) :
    (s.readyEntry k).station = s.station ∧ (s.readyEntry k).bus = s.bus ∧ (s.readyEntry k).arb = s.arb ∧
    (s.readyEntry k).engine = s.engine ∧ (s.readyEntry k).sched = s.sched ∧ (s.readyEntry k).notes = s.notes ∧
    (s.readyEntry k).triggers = s.triggers ∧ (s.readyEntry k).port = s.port ∧ (s.readyEntry k).loader = s.loader ∧
    (s.readyEntry k).mover = s.mover ∧ (s.readyEntry k).writer = s.writer ∧ (s.readyEntry k).copier = s.copier ∧
    (s.readyEntry k).host = s.host ∧ (s.readyEntry k).mem = s.mem ∧ (s.readyEntry k).pending = s.pending := by
  unfold State.readyEntry; (repeat' split) <;> simp

@[simp] theorem State.withdrawEntry_frame (s : State) (k : Key) (r : WithdrawReason) :
    (s.withdrawEntry k r).station = s.station ∧ (s.withdrawEntry k r).bus = s.bus ∧
    (s.withdrawEntry k r).arb = s.arb ∧ (s.withdrawEntry k r).engine = s.engine ∧
    (s.withdrawEntry k r).sched = s.sched ∧ (s.withdrawEntry k r).notes = s.notes ∧
    (s.withdrawEntry k r).triggers = s.triggers ∧ (s.withdrawEntry k r).port = s.port ∧
    (s.withdrawEntry k r).loader = s.loader ∧ (s.withdrawEntry k r).mover = s.mover ∧
    (s.withdrawEntry k r).writer = s.writer ∧ (s.withdrawEntry k r).copier = s.copier ∧
    (s.withdrawEntry k r).host = s.host ∧ (s.withdrawEntry k r).mem = s.mem ∧
    (s.withdrawEntry k r).pending = s.pending := by
  unfold State.withdrawEntry; (repeat' split) <;> simp

@[simp] theorem State.parkEntry_frame (s : State) (k : Key) :
    (s.parkEntry k).station = s.station ∧ (s.parkEntry k).bus = s.bus ∧ (s.parkEntry k).arb = s.arb ∧
    (s.parkEntry k).engine = s.engine ∧ (s.parkEntry k).sched = s.sched ∧ (s.parkEntry k).notes = s.notes ∧
    (s.parkEntry k).triggers = s.triggers ∧ (s.parkEntry k).port = s.port ∧ (s.parkEntry k).loader = s.loader ∧
    (s.parkEntry k).mover = s.mover ∧ (s.parkEntry k).writer = s.writer ∧ (s.parkEntry k).copier = s.copier ∧
    (s.parkEntry k).host = s.host ∧ (s.parkEntry k).mem = s.mem ∧ (s.parkEntry k).pending = s.pending := by
  unfold State.parkEntry; (repeat' split) <;> simp

@[simp] theorem State.parkAndCheck_frame (s : State) (k : Key) :
    (s.parkAndCheck k).station = s.station ∧ (s.parkAndCheck k).bus = s.bus ∧ (s.parkAndCheck k).arb = s.arb ∧
    (s.parkAndCheck k).engine = s.engine ∧ (s.parkAndCheck k).sched = s.sched ∧ (s.parkAndCheck k).notes = s.notes ∧
    (s.parkAndCheck k).triggers = s.triggers ∧ (s.parkAndCheck k).port = s.port ∧
    (s.parkAndCheck k).loader = s.loader ∧ (s.parkAndCheck k).mover = s.mover ∧
    (s.parkAndCheck k).writer = s.writer ∧ (s.parkAndCheck k).copier = s.copier ∧ (s.parkAndCheck k).mem = s.mem ∧
    (s.parkAndCheck k).pending = s.pending := by
  unfold State.parkAndCheck; (repeat' split) <;> simp

@[simp] theorem State.removeEntry_frame (s : State) (k : Key) :
    (s.removeEntry k).station = s.station ∧ (s.removeEntry k).sched = s.sched ∧
    (s.removeEntry k).triggers = s.triggers ∧ (s.removeEntry k).loader = s.loader ∧
    (s.removeEntry k).writer = s.writer ∧ (s.removeEntry k).copier = s.copier ∧ (s.removeEntry k).mem = s.mem ∧
    (s.removeEntry k).pending = s.pending := by
  unfold State.removeEntry; dsimp only; (repeat' split) <;> simp

@[simp] theorem State.retireEntry_frame (s : State) (k : Key) :
    (s.retireEntry k).station = s.station ∧ (s.retireEntry k).sched = s.sched ∧
    (s.retireEntry k).triggers = s.triggers ∧ (s.retireEntry k).loader = s.loader ∧
    (s.retireEntry k).writer = s.writer ∧ (s.retireEntry k).copier = s.copier ∧ (s.retireEntry k).mem = s.mem ∧
    (s.retireEntry k).pending = s.pending := by
  unfold State.retireEntry; (repeat' split) <;> simp

@[simp] theorem State.dropEntry_frame (s : State) (k : Key) :
    (s.dropEntry k).station = s.station ∧ (s.dropEntry k).sched = s.sched ∧ (s.dropEntry k).triggers = s.triggers ∧
    (s.dropEntry k).loader = s.loader ∧ (s.dropEntry k).writer = s.writer ∧ (s.dropEntry k).copier = s.copier ∧
    (s.dropEntry k).mem = s.mem ∧ (s.dropEntry k).pending = s.pending := by
  unfold State.dropEntry; (repeat' split) <;> simp

@[simp] theorem State.storeNote_frame (s : State) (n : Note) :
    (s.storeNote n).station = s.station ∧ (s.storeNote n).bus = s.bus ∧ (s.storeNote n).arb = s.arb ∧
    (s.storeNote n).engine = s.engine ∧ (s.storeNote n).sched = s.sched ∧ (s.storeNote n).service = s.service ∧
    (s.storeNote n).triggers = s.triggers ∧ (s.storeNote n).port = s.port ∧ (s.storeNote n).loader = s.loader ∧
    (s.storeNote n).mover = s.mover ∧ (s.storeNote n).writer = s.writer ∧ (s.storeNote n).copier = s.copier ∧
    (s.storeNote n).mem = s.mem ∧ (s.storeNote n).pending = s.pending := by
  unfold State.storeNote; (repeat' split) <;> simp

@[simp] theorem State.storeMessage_frame (s : State) (sender : StationId) (payload : List Byte) :
    (s.storeMessage sender payload).station = s.station ∧ (s.storeMessage sender payload).bus = s.bus ∧
    (s.storeMessage sender payload).arb = s.arb ∧ (s.storeMessage sender payload).engine = s.engine ∧
    (s.storeMessage sender payload).sched = s.sched ∧ (s.storeMessage sender payload).service = s.service ∧
    (s.storeMessage sender payload).triggers = s.triggers ∧ (s.storeMessage sender payload).port = s.port ∧
    (s.storeMessage sender payload).loader = s.loader ∧ (s.storeMessage sender payload).mover = s.mover ∧
    (s.storeMessage sender payload).writer = s.writer ∧ (s.storeMessage sender payload).copier = s.copier ∧
    (s.storeMessage sender payload).mem = s.mem ∧ (s.storeMessage sender payload).pending = s.pending := by
  unfold State.storeMessage; (repeat' split) <;> simp

@[simp] theorem State.finishEntry_frame (s : State) (k : Key) :
    (s.finishEntry k).station = s.station ∧ (s.finishEntry k).sched = s.sched ∧
    (s.finishEntry k).triggers = s.triggers ∧ (s.finishEntry k).loader = s.loader ∧
    (s.finishEntry k).writer = s.writer ∧ (s.finishEntry k).copier = s.copier ∧ (s.finishEntry k).mem = s.mem ∧
    (s.finishEntry k).pending = s.pending := by
  unfold State.finishEntry; dsimp only; (repeat' split) <;> simp

@[simp] theorem State.settleDisconnect_frame (s : State) (k : Key) :
    (s.settleDisconnect k).station = s.station ∧ (s.settleDisconnect k).bus = s.bus ∧
    (s.settleDisconnect k).arb = s.arb ∧ (s.settleDisconnect k).engine = s.engine ∧
    (s.settleDisconnect k).sched = s.sched ∧ (s.settleDisconnect k).notes = s.notes ∧
    (s.settleDisconnect k).triggers = s.triggers ∧ (s.settleDisconnect k).port = s.port ∧
    (s.settleDisconnect k).loader = s.loader ∧ (s.settleDisconnect k).mover = s.mover ∧
    (s.settleDisconnect k).writer = s.writer ∧ (s.settleDisconnect k).copier = s.copier ∧
    (s.settleDisconnect k).mem = s.mem ∧ (s.settleDisconnect k).pending = s.pending := by
  unfold State.settleDisconnect; (repeat' split) <;> simp

@[simp] theorem State.settleFinish_frame (s : State) (k : Key) :
    (s.settleFinish k).station = s.station ∧ (s.settleFinish k).sched = s.sched ∧
    (s.settleFinish k).triggers = s.triggers ∧ (s.settleFinish k).loader = s.loader ∧
    (s.settleFinish k).writer = s.writer ∧ (s.settleFinish k).copier = s.copier ∧ (s.settleFinish k).mem = s.mem ∧
    (s.settleFinish k).pending = s.pending := by
  unfold State.settleFinish; (repeat' split) <;> simp

@[simp] theorem State.entryUnanswered_frame (s : State) (k : Key) :
    (s.entryUnanswered k).station = s.station ∧ (s.entryUnanswered k).sched = s.sched ∧
    (s.entryUnanswered k).triggers = s.triggers ∧ (s.entryUnanswered k).loader = s.loader ∧
    (s.entryUnanswered k).writer = s.writer ∧ (s.entryUnanswered k).copier = s.copier ∧
    (s.entryUnanswered k).mem = s.mem ∧ (s.entryUnanswered k).pending = s.pending := by
  unfold State.entryUnanswered; dsimp only; (repeat' split) <;> simp

@[simp] theorem State.holdReady_frame (s : State) (w : WindowId) :
    (s.holdReady w).station = s.station ∧ (s.holdReady w).bus = s.bus ∧ (s.holdReady w).arb = s.arb ∧
    (s.holdReady w).engine = s.engine ∧ (s.holdReady w).sched = s.sched ∧ (s.holdReady w).notes = s.notes ∧
    (s.holdReady w).triggers = s.triggers ∧ (s.holdReady w).port = s.port ∧ (s.holdReady w).loader = s.loader ∧
    (s.holdReady w).mover = s.mover ∧ (s.holdReady w).writer = s.writer ∧ (s.holdReady w).copier = s.copier ∧
    (s.holdReady w).mem = s.mem ∧ (s.holdReady w).pending = s.pending := by
  unfold State.holdReady; and_intros <;> simp [State.foldl_station, State.foldl_bus, State.foldl_arb,
      State.foldl_engine, State.foldl_sched, State.foldl_service, State.foldl_notes, State.foldl_triggers,
      State.foldl_port, State.foldl_loader, State.foldl_mover, State.foldl_writer, State.foldl_copier, State.foldl_host,
      State.foldl_mem, State.foldl_pending, apply_ite]

@[simp] theorem State.releaseHeld_frame (s : State) (w : WindowId) :
    (s.releaseHeld w).station = s.station ∧ (s.releaseHeld w).bus = s.bus ∧ (s.releaseHeld w).arb = s.arb ∧
    (s.releaseHeld w).engine = s.engine ∧ (s.releaseHeld w).sched = s.sched ∧ (s.releaseHeld w).notes = s.notes ∧
    (s.releaseHeld w).triggers = s.triggers ∧ (s.releaseHeld w).port = s.port ∧
    (s.releaseHeld w).loader = s.loader ∧ (s.releaseHeld w).mover = s.mover ∧ (s.releaseHeld w).writer = s.writer ∧
    (s.releaseHeld w).copier = s.copier ∧ (s.releaseHeld w).host = s.host ∧ (s.releaseHeld w).mem = s.mem ∧
    (s.releaseHeld w).pending = s.pending := by
  unfold State.releaseHeld; and_intros <;> simp [State.foldl_station, State.foldl_bus, State.foldl_arb,
      State.foldl_engine, State.foldl_sched, State.foldl_service, State.foldl_notes, State.foldl_triggers,
      State.foldl_port, State.foldl_loader, State.foldl_mover, State.foldl_writer, State.foldl_copier, State.foldl_host,
      State.foldl_mem, State.foldl_pending, apply_ite]

@[simp] theorem State.leaveEntries_frame (s : State) :
    (s.leaveEntries).station = s.station ∧ (s.leaveEntries).bus = s.bus ∧ (s.leaveEntries).arb = s.arb ∧
    (s.leaveEntries).engine = s.engine ∧ (s.leaveEntries).sched = s.sched ∧ (s.leaveEntries).notes = s.notes ∧
    (s.leaveEntries).triggers = s.triggers ∧ (s.leaveEntries).port = s.port ∧ (s.leaveEntries).loader = s.loader ∧
    (s.leaveEntries).mover = s.mover ∧ (s.leaveEntries).writer = s.writer ∧ (s.leaveEntries).copier = s.copier ∧
    (s.leaveEntries).host = s.host ∧ (s.leaveEntries).mem = s.mem ∧ (s.leaveEntries).pending = s.pending := by
  unfold State.leaveEntries; and_intros <;> simp [State.foldl_station, State.foldl_bus, State.foldl_arb,
      State.foldl_engine, State.foldl_sched, State.foldl_service, State.foldl_notes, State.foldl_triggers,
      State.foldl_port, State.foldl_loader, State.foldl_mover, State.foldl_writer, State.foldl_copier, State.foldl_host,
      State.foldl_mem, State.foldl_pending, apply_ite]

@[simp] theorem State.peerSilentEntries_frame (s : State) (p : StationId) :
    (s.peerSilentEntries p).station = s.station ∧ (s.peerSilentEntries p).sched = s.sched ∧
    (s.peerSilentEntries p).triggers = s.triggers ∧ (s.peerSilentEntries p).loader = s.loader ∧
    (s.peerSilentEntries p).writer = s.writer ∧ (s.peerSilentEntries p).copier = s.copier ∧
    (s.peerSilentEntries p).mem = s.mem ∧ (s.peerSilentEntries p).pending = s.pending := by
  unfold State.peerSilentEntries; and_intros <;> simp [State.foldl_station, State.foldl_bus, State.foldl_arb,
      State.foldl_engine, State.foldl_sched, State.foldl_service, State.foldl_notes, State.foldl_triggers,
      State.foldl_port, State.foldl_loader, State.foldl_mover, State.foldl_writer, State.foldl_copier, State.foldl_host,
      State.foldl_mem, State.foldl_pending, apply_ite]

@[simp] theorem State.holdAll_frame (s : State) :
    (s.holdAll).station = s.station ∧ (s.holdAll).bus = s.bus ∧ (s.holdAll).arb = s.arb ∧
    (s.holdAll).engine = s.engine ∧ (s.holdAll).sched = s.sched ∧ (s.holdAll).notes = s.notes ∧
    (s.holdAll).triggers = s.triggers ∧ (s.holdAll).port = s.port ∧ (s.holdAll).loader = s.loader ∧
    (s.holdAll).mover = s.mover ∧ (s.holdAll).writer = s.writer ∧ (s.holdAll).copier = s.copier ∧
    (s.holdAll).mem = s.mem ∧ (s.holdAll).pending = s.pending := by
  unfold State.holdAll; and_intros <;> simp [State.foldl_station, State.foldl_bus, State.foldl_arb,
      State.foldl_engine, State.foldl_sched, State.foldl_service, State.foldl_notes, State.foldl_triggers,
      State.foldl_port, State.foldl_loader, State.foldl_mover, State.foldl_writer, State.foldl_copier, State.foldl_host,
      State.foldl_mem, State.foldl_pending, apply_ite]

@[simp] theorem State.emptyTable_frame (s : State) :
    (s.emptyTable).station = s.station ∧ (s.emptyTable).bus = s.bus ∧ (s.emptyTable).arb = s.arb ∧
    (s.emptyTable).engine = s.engine ∧ (s.emptyTable).sched = s.sched ∧ (s.emptyTable).notes = s.notes ∧
    (s.emptyTable).triggers = s.triggers ∧ (s.emptyTable).port = s.port ∧ (s.emptyTable).loader = s.loader ∧
    (s.emptyTable).mover = s.mover ∧ (s.emptyTable).writer = s.writer ∧ (s.emptyTable).copier = s.copier ∧
    (s.emptyTable).mem = s.mem ∧ (s.emptyTable).pending = s.pending := by
  unfold State.emptyTable; (repeat' split) <;> simp

@[simp] theorem State.resetWindows_frame (s : State) :
    (s.resetWindows).station = s.station ∧ (s.resetWindows).bus = s.bus ∧ (s.resetWindows).arb = s.arb ∧
    (s.resetWindows).engine = s.engine ∧ (s.resetWindows).sched = s.sched ∧ (s.resetWindows).notes = s.notes ∧
    (s.resetWindows).triggers = s.triggers ∧ (s.resetWindows).port = s.port ∧ (s.resetWindows).loader = s.loader ∧
    (s.resetWindows).mover = s.mover ∧ (s.resetWindows).writer = s.writer ∧ (s.resetWindows).copier = s.copier ∧
    (s.resetWindows).host = s.host ∧ (s.resetWindows).mem = s.mem ∧ (s.resetWindows).pending = s.pending := by
  unfold State.resetWindows; (repeat' split) <;> simp

@[simp] theorem State.request_frame (s : State) (who : Requester) (t : Transaction) :
    (s.request who t).station = s.station ∧ (s.request who t).bus = s.bus ∧ (s.request who t).arb = s.arb ∧
    (s.request who t).engine = s.engine ∧ (s.request who t).sched = s.sched ∧
    (s.request who t).service = s.service ∧ (s.request who t).notes = s.notes ∧
    (s.request who t).triggers = s.triggers ∧ (s.request who t).loader = s.loader ∧
    (s.request who t).mover = s.mover ∧ (s.request who t).writer = s.writer ∧ (s.request who t).copier = s.copier ∧
    (s.request who t).host = s.host ∧ (s.request who t).mem = s.mem ∧ (s.request who t).pending = s.pending := by
  unfold State.request; (repeat' split) <;> simp

@[simp] theorem State.freeLoading_frame (s : State) (i : SlotId) :
    (s.freeLoading i).station = s.station ∧ (s.freeLoading i).bus = s.bus ∧ (s.freeLoading i).arb = s.arb ∧
    (s.freeLoading i).engine = s.engine ∧ (s.freeLoading i).service = s.service ∧
    (s.freeLoading i).notes = s.notes ∧ (s.freeLoading i).triggers = s.triggers ∧ (s.freeLoading i).port = s.port ∧
    (s.freeLoading i).loader = s.loader ∧ (s.freeLoading i).mover = s.mover ∧ (s.freeLoading i).writer = s.writer ∧
    (s.freeLoading i).copier = s.copier ∧ (s.freeLoading i).host = s.host ∧ (s.freeLoading i).mem = s.mem ∧
    (s.freeLoading i).pending = s.pending := by
  unfold State.freeLoading; (repeat' split) <;> simp

@[simp] theorem State.loadStopped_frame (s : State) :
    (s.loadStopped).station = s.station ∧ (s.loadStopped).bus = s.bus ∧ (s.loadStopped).arb = s.arb ∧
    (s.loadStopped).engine = s.engine ∧ (s.loadStopped).service = s.service ∧ (s.loadStopped).notes = s.notes ∧
    (s.loadStopped).triggers = s.triggers ∧ (s.loadStopped).port = s.port ∧ (s.loadStopped).mover = s.mover ∧
    (s.loadStopped).writer = s.writer ∧ (s.loadStopped).copier = s.copier ∧ (s.loadStopped).mem = s.mem ∧
    (s.loadStopped).pending = s.pending := by
  unfold State.loadStopped; (repeat' split) <;> simp

@[simp] theorem State.loaderFault_frame (s : State) :
    (s.loaderFault).bus = s.bus ∧ (s.loaderFault).arb = s.arb ∧ (s.loaderFault).engine = s.engine ∧
    (s.loaderFault).service = s.service ∧ (s.loaderFault).notes = s.notes ∧ (s.loaderFault).triggers = s.triggers ∧
    (s.loaderFault).port = s.port ∧ (s.loaderFault).mover = s.mover ∧ (s.loaderFault).writer = s.writer ∧
    (s.loaderFault).copier = s.copier ∧ (s.loaderFault).mem = s.mem ∧ (s.loaderFault).pending = s.pending := by
  unfold State.loaderFault; dsimp only; (repeat' split) <;> simp

@[simp] theorem State.loaderAsk_frame (s : State) :
    (s.loaderAsk).bus = s.bus ∧ (s.loaderAsk).arb = s.arb ∧ (s.loaderAsk).engine = s.engine ∧
    (s.loaderAsk).service = s.service ∧ (s.loaderAsk).notes = s.notes ∧ (s.loaderAsk).triggers = s.triggers ∧
    (s.loaderAsk).mover = s.mover ∧ (s.loaderAsk).writer = s.writer ∧ (s.loaderAsk).copier = s.copier ∧
    (s.loaderAsk).mem = s.mem ∧ (s.loaderAsk).pending = s.pending := by
  unfold State.loaderAsk; dsimp only; (repeat' split) <;> simp

@[simp] theorem State.placeSlot_frame (s : State) (i : SlotId) (d : Descriptor) :
    (s.placeSlot i d).station = s.station ∧ (s.placeSlot i d).bus = s.bus ∧ (s.placeSlot i d).arb = s.arb ∧
    (s.placeSlot i d).engine = s.engine ∧ (s.placeSlot i d).service = s.service ∧
    (s.placeSlot i d).notes = s.notes ∧ (s.placeSlot i d).triggers = s.triggers ∧ (s.placeSlot i d).port = s.port ∧
    (s.placeSlot i d).loader = s.loader ∧ (s.placeSlot i d).mover = s.mover ∧ (s.placeSlot i d).writer = s.writer ∧
    (s.placeSlot i d).copier = s.copier ∧ (s.placeSlot i d).host = s.host ∧ (s.placeSlot i d).mem = s.mem ∧
    (s.placeSlot i d).pending = s.pending := by
  unfold State.placeSlot; dsimp only; (repeat' split) <;> simp

@[simp] theorem State.descriptorLoaded_frame (s : State) (i : SlotId) (bytes : List Byte) :
    (s.descriptorLoaded i bytes).station = s.station ∧ (s.descriptorLoaded i bytes).bus = s.bus ∧
    (s.descriptorLoaded i bytes).arb = s.arb ∧ (s.descriptorLoaded i bytes).engine = s.engine ∧
    (s.descriptorLoaded i bytes).service = s.service ∧ (s.descriptorLoaded i bytes).notes = s.notes ∧
    (s.descriptorLoaded i bytes).triggers = s.triggers ∧ (s.descriptorLoaded i bytes).port = s.port ∧
    (s.descriptorLoaded i bytes).loader = s.loader ∧ (s.descriptorLoaded i bytes).mover = s.mover ∧
    (s.descriptorLoaded i bytes).writer = s.writer ∧ (s.descriptorLoaded i bytes).copier = s.copier ∧
    (s.descriptorLoaded i bytes).mem = s.mem ∧ (s.descriptorLoaded i bytes).pending = s.pending := by
  unfold State.descriptorLoaded; dsimp only; (repeat' split) <;> simp

@[simp] theorem State.configLoaded_frame (s : State) (bytes : List Byte) :
    (s.configLoaded bytes).bus = s.bus ∧ (s.configLoaded bytes).arb = s.arb ∧
    (s.configLoaded bytes).engine = s.engine ∧ (s.configLoaded bytes).sched = s.sched ∧
    (s.configLoaded bytes).notes = s.notes ∧ (s.configLoaded bytes).triggers = s.triggers ∧
    (s.configLoaded bytes).port = s.port ∧ (s.configLoaded bytes).loader = s.loader ∧
    (s.configLoaded bytes).mover = s.mover ∧ (s.configLoaded bytes).copier = s.copier ∧
    (s.configLoaded bytes).mem = s.mem ∧ (s.configLoaded bytes).pending = s.pending := by
  unfold State.configLoaded; dsimp only; (repeat' split) <;> simp

@[simp] theorem State.loaderRead_frame (s : State) (data : List Byte) :
    (s.loaderRead data).bus = s.bus ∧ (s.loaderRead data).arb = s.arb ∧ (s.loaderRead data).engine = s.engine ∧
    (s.loaderRead data).notes = s.notes ∧ (s.loaderRead data).triggers = s.triggers ∧
    (s.loaderRead data).mover = s.mover ∧ (s.loaderRead data).copier = s.copier ∧ (s.loaderRead data).mem = s.mem ∧
    (s.loaderRead data).pending = s.pending := by
  unfold State.loaderRead; dsimp only; (repeat' split) <;> simp

@[simp] theorem State.copierAsk_frame (s : State) :
    (s.copierAsk).station = s.station ∧ (s.copierAsk).bus = s.bus ∧ (s.copierAsk).arb = s.arb ∧
    (s.copierAsk).engine = s.engine ∧ (s.copierAsk).sched = s.sched ∧ (s.copierAsk).service = s.service ∧
    (s.copierAsk).notes = s.notes ∧ (s.copierAsk).triggers = s.triggers ∧ (s.copierAsk).loader = s.loader ∧
    (s.copierAsk).mover = s.mover ∧ (s.copierAsk).writer = s.writer ∧ (s.copierAsk).copier = s.copier ∧
    (s.copierAsk).host = s.host ∧ (s.copierAsk).mem = s.mem ∧ (s.copierAsk).pending = s.pending := by
  unfold State.copierAsk; dsimp only; (repeat' split) <;> simp

@[simp] theorem State.copyEnded_frame (s : State) :
    (s.copyEnded).station = s.station ∧ (s.copyEnded).bus = s.bus ∧ (s.copyEnded).arb = s.arb ∧
    (s.copyEnded).engine = s.engine ∧ (s.copyEnded).sched = s.sched ∧ (s.copyEnded).service = s.service ∧
    (s.copyEnded).triggers = s.triggers ∧ (s.copyEnded).port = s.port ∧ (s.copyEnded).loader = s.loader ∧
    (s.copyEnded).mover = s.mover ∧ (s.copyEnded).writer = s.writer ∧ (s.copyEnded).mem = s.mem ∧
    (s.copyEnded).pending = s.pending := by
  unfold State.copyEnded; dsimp only; (repeat' split) <;> simp

@[simp] theorem State.copierWrote_frame (s : State) (n : Nat) :
    (s.copierWrote n).station = s.station ∧ (s.copierWrote n).bus = s.bus ∧ (s.copierWrote n).arb = s.arb ∧
    (s.copierWrote n).engine = s.engine ∧ (s.copierWrote n).sched = s.sched ∧
    (s.copierWrote n).service = s.service ∧ (s.copierWrote n).triggers = s.triggers ∧
    (s.copierWrote n).loader = s.loader ∧ (s.copierWrote n).mover = s.mover ∧ (s.copierWrote n).writer = s.writer ∧
    (s.copierWrote n).mem = s.mem ∧ (s.copierWrote n).pending = s.pending := by
  unfold State.copierWrote; (repeat' split) <;> simp

@[simp] theorem State.copierFault_frame (s : State) :
    (s.copierFault).station = s.station ∧ (s.copierFault).bus = s.bus ∧ (s.copierFault).arb = s.arb ∧
    (s.copierFault).engine = s.engine ∧ (s.copierFault).sched = s.sched ∧ (s.copierFault).service = s.service ∧
    (s.copierFault).triggers = s.triggers ∧ (s.copierFault).port = s.port ∧ (s.copierFault).loader = s.loader ∧
    (s.copierFault).mover = s.mover ∧ (s.copierFault).writer = s.writer ∧ (s.copierFault).mem = s.mem ∧
    (s.copierFault).pending = s.pending := by
  unfold State.copierFault; (repeat' split) <;> simp

@[simp] theorem State.writerFault_frame (s : State) (addr : Nat) :
    (s.writerFault addr).station = s.station ∧ (s.writerFault addr).bus = s.bus ∧ (s.writerFault addr).arb = s.arb ∧
    (s.writerFault addr).engine = s.engine ∧ (s.writerFault addr).sched = s.sched ∧
    (s.writerFault addr).service = s.service ∧ (s.writerFault addr).notes = s.notes ∧
    (s.writerFault addr).triggers = s.triggers ∧ (s.writerFault addr).port = s.port ∧
    (s.writerFault addr).loader = s.loader ∧ (s.writerFault addr).mover = s.mover ∧
    (s.writerFault addr).copier = s.copier ∧ (s.writerFault addr).mem = s.mem ∧
    (s.writerFault addr).pending = s.pending := by
  unfold State.writerFault; (repeat' split) <;> simp

@[simp] theorem State.writerAsk_frame (s : State) :
    (s.writerAsk).station = s.station ∧ (s.writerAsk).bus = s.bus ∧ (s.writerAsk).arb = s.arb ∧
    (s.writerAsk).engine = s.engine ∧ (s.writerAsk).sched = s.sched ∧ (s.writerAsk).service = s.service ∧
    (s.writerAsk).notes = s.notes ∧ (s.writerAsk).triggers = s.triggers ∧ (s.writerAsk).loader = s.loader ∧
    (s.writerAsk).mover = s.mover ∧ (s.writerAsk).copier = s.copier ∧ (s.writerAsk).mem = s.mem ∧
    (s.writerAsk).pending = s.pending := by
  unfold State.writerAsk; dsimp only; (repeat' split) <;> simp

@[simp] theorem State.recordEnded_frame (s : State) (r : Record) :
    (s.recordEnded r).station = s.station ∧ (s.recordEnded r).bus = s.bus ∧ (s.recordEnded r).arb = s.arb ∧
    (s.recordEnded r).engine = s.engine ∧ (s.recordEnded r).service = s.service ∧
    (s.recordEnded r).notes = s.notes ∧ (s.recordEnded r).triggers = s.triggers ∧ (s.recordEnded r).port = s.port ∧
    (s.recordEnded r).loader = s.loader ∧ (s.recordEnded r).mover = s.mover ∧ (s.recordEnded r).copier = s.copier ∧
    (s.recordEnded r).mem = s.mem ∧ (s.recordEnded r).pending = s.pending := by
  unfold State.recordEnded; dsimp only; (repeat' split) <;> simp

@[simp] theorem State.writerWrote_frame (s : State) (n : Nat) :
    (s.writerWrote n).station = s.station ∧ (s.writerWrote n).bus = s.bus ∧ (s.writerWrote n).arb = s.arb ∧
    (s.writerWrote n).engine = s.engine ∧ (s.writerWrote n).service = s.service ∧
    (s.writerWrote n).notes = s.notes ∧ (s.writerWrote n).triggers = s.triggers ∧
    (s.writerWrote n).loader = s.loader ∧ (s.writerWrote n).mover = s.mover ∧ (s.writerWrote n).copier = s.copier ∧
    (s.writerWrote n).mem = s.mem ∧ (s.writerWrote n).pending = s.pending := by
  unfold State.writerWrote; (repeat' split) <;> simp

@[simp] theorem State.takeRecord_frame (s : State) :
    (s.takeRecord).station = s.station ∧ (s.takeRecord).bus = s.bus ∧ (s.takeRecord).arb = s.arb ∧
    (s.takeRecord).engine = s.engine ∧ (s.takeRecord).service = s.service ∧ (s.takeRecord).notes = s.notes ∧
    (s.takeRecord).triggers = s.triggers ∧ (s.takeRecord).loader = s.loader ∧ (s.takeRecord).mover = s.mover ∧
    (s.takeRecord).copier = s.copier ∧ (s.takeRecord).mem = s.mem ∧ (s.takeRecord).pending = s.pending := by
  unfold State.takeRecord; dsimp only; (repeat' split) <;> simp

@[simp] theorem State.abortFor_frame (s : State) (c : AbortCause) :
    (s.abortFor c).station = s.station ∧ (s.abortFor c).bus = s.bus ∧ (s.abortFor c).arb = s.arb ∧
    (s.abortFor c).sched = s.sched ∧ (s.abortFor c).service = s.service ∧ (s.abortFor c).notes = s.notes ∧
    (s.abortFor c).triggers = s.triggers ∧ (s.abortFor c).port = s.port ∧ (s.abortFor c).loader = s.loader ∧
    (s.abortFor c).mover = s.mover ∧ (s.abortFor c).writer = s.writer ∧ (s.abortFor c).copier = s.copier ∧
    (s.abortFor c).host = s.host ∧ (s.abortFor c).mem = s.mem ∧ (s.abortFor c).pending = s.pending := by
  unfold State.abortFor; (repeat' split) <;> simp

@[simp] theorem State.moverGiveUp_frame (s : State) :
    (s.moverGiveUp).station = s.station ∧ (s.moverGiveUp).bus = s.bus ∧ (s.moverGiveUp).arb = s.arb ∧
    (s.moverGiveUp).engine = s.engine ∧ (s.moverGiveUp).sched = s.sched ∧ (s.moverGiveUp).service = s.service ∧
    (s.moverGiveUp).notes = s.notes ∧ (s.moverGiveUp).triggers = s.triggers ∧ (s.moverGiveUp).loader = s.loader ∧
    (s.moverGiveUp).writer = s.writer ∧ (s.moverGiveUp).copier = s.copier ∧ (s.moverGiveUp).host = s.host ∧
    (s.moverGiveUp).mem = s.mem ∧ (s.moverGiveUp).pending = s.pending := by
  unfold State.moverGiveUp; (repeat' split) <;> simp

@[simp] theorem State.moverFault_frame (s : State) (d : FaultDetail) :
    (s.moverFault d).station = s.station ∧ (s.moverFault d).bus = s.bus ∧ (s.moverFault d).arb = s.arb ∧
    (s.moverFault d).sched = s.sched ∧ (s.moverFault d).service = s.service ∧ (s.moverFault d).notes = s.notes ∧
    (s.moverFault d).triggers = s.triggers ∧ (s.moverFault d).loader = s.loader ∧
    (s.moverFault d).writer = s.writer ∧ (s.moverFault d).copier = s.copier ∧ (s.moverFault d).host = s.host ∧
    (s.moverFault d).mem = s.mem ∧ (s.moverFault d).pending = s.pending := by
  unfold State.moverFault; (repeat' split) <;> simp

@[simp] theorem State.walkerAsk_frame (s : State) :
    (s.walkerAsk).station = s.station ∧ (s.walkerAsk).bus = s.bus ∧ (s.walkerAsk).arb = s.arb ∧
    (s.walkerAsk).sched = s.sched ∧ (s.walkerAsk).service = s.service ∧ (s.walkerAsk).notes = s.notes ∧
    (s.walkerAsk).triggers = s.triggers ∧ (s.walkerAsk).loader = s.loader ∧ (s.walkerAsk).writer = s.writer ∧
    (s.walkerAsk).copier = s.copier ∧ (s.walkerAsk).host = s.host ∧ (s.walkerAsk).mem = s.mem ∧
    (s.walkerAsk).pending = s.pending := by
  unfold State.walkerAsk; dsimp only; (repeat' split) <;> simp

@[simp] theorem State.askPiece_frame (s : State) (p : Nat) (remaining : Nat) (make : Nat → Nat → Transaction) :
    (s.askPiece p remaining make).station = s.station ∧ (s.askPiece p remaining make).bus = s.bus ∧
    (s.askPiece p remaining make).arb = s.arb ∧ (s.askPiece p remaining make).sched = s.sched ∧
    (s.askPiece p remaining make).service = s.service ∧ (s.askPiece p remaining make).notes = s.notes ∧
    (s.askPiece p remaining make).triggers = s.triggers ∧ (s.askPiece p remaining make).loader = s.loader ∧
    (s.askPiece p remaining make).writer = s.writer ∧ (s.askPiece p remaining make).copier = s.copier ∧
    (s.askPiece p remaining make).host = s.host ∧ (s.askPiece p remaining make).mem = s.mem ∧
    (s.askPiece p remaining make).pending = s.pending := by
  unfold State.askPiece; dsimp only; (repeat' split) <;> simp

@[simp] theorem State.moverAsk_frame (s : State) :
    (s.moverAsk).station = s.station ∧ (s.moverAsk).bus = s.bus ∧ (s.moverAsk).arb = s.arb ∧
    (s.moverAsk).sched = s.sched ∧ (s.moverAsk).service = s.service ∧ (s.moverAsk).notes = s.notes ∧
    (s.moverAsk).triggers = s.triggers ∧ (s.moverAsk).loader = s.loader ∧ (s.moverAsk).writer = s.writer ∧
    (s.moverAsk).copier = s.copier ∧ (s.moverAsk).host = s.host ∧ (s.moverAsk).mem = s.mem ∧
    (s.moverAsk).pending = s.pending := by
  unfold State.moverAsk; dsimp only; (repeat' split) <;> simp

@[simp] theorem State.feed_frame (s : State) :
    (s.feed).station = s.station ∧ (s.feed).bus = s.bus ∧ (s.feed).arb = s.arb ∧ (s.feed).sched = s.sched ∧
    (s.feed).service = s.service ∧ (s.feed).notes = s.notes ∧ (s.feed).triggers = s.triggers ∧
    (s.feed).loader = s.loader ∧ (s.feed).writer = s.writer ∧ (s.feed).copier = s.copier ∧ (s.feed).host = s.host ∧
    (s.feed).mem = s.mem ∧ (s.feed).pending = s.pending := by
  unfold State.feed; (repeat' split) <;> simp

@[simp] theorem State.stopRead_frame (s : State) :
    (s.stopRead).station = s.station ∧ (s.stopRead).bus = s.bus ∧ (s.stopRead).arb = s.arb ∧
    (s.stopRead).engine = s.engine ∧ (s.stopRead).sched = s.sched ∧ (s.stopRead).service = s.service ∧
    (s.stopRead).notes = s.notes ∧ (s.stopRead).triggers = s.triggers ∧ (s.stopRead).port = s.port ∧
    (s.stopRead).loader = s.loader ∧ (s.stopRead).writer = s.writer ∧ (s.stopRead).copier = s.copier ∧
    (s.stopRead).host = s.host ∧ (s.stopRead).mem = s.mem ∧ (s.stopRead).pending = s.pending := by
  unfold State.stopRead; (repeat' split) <;> simp

@[simp] theorem State.advance_frame (s : State) (n : Nat) :
    (s.advance n).station = s.station ∧ (s.advance n).bus = s.bus ∧ (s.advance n).arb = s.arb ∧
    (s.advance n).engine = s.engine ∧ (s.advance n).sched = s.sched ∧ (s.advance n).service = s.service ∧
    (s.advance n).notes = s.notes ∧ (s.advance n).triggers = s.triggers ∧ (s.advance n).port = s.port ∧
    (s.advance n).loader = s.loader ∧ (s.advance n).writer = s.writer ∧ (s.advance n).copier = s.copier ∧
    (s.advance n).host = s.host ∧ (s.advance n).mem = s.mem ∧ (s.advance n).pending = s.pending := by
  unfold State.advance; (repeat' split) <;> simp

@[simp] theorem State.moverRead_frame (s : State) (data : List Byte) :
    (s.moverRead data).station = s.station ∧ (s.moverRead data).bus = s.bus ∧ (s.moverRead data).arb = s.arb ∧
    (s.moverRead data).sched = s.sched ∧ (s.moverRead data).service = s.service ∧
    (s.moverRead data).notes = s.notes ∧ (s.moverRead data).triggers = s.triggers ∧
    (s.moverRead data).loader = s.loader ∧ (s.moverRead data).writer = s.writer ∧
    (s.moverRead data).copier = s.copier ∧ (s.moverRead data).host = s.host ∧ (s.moverRead data).mem = s.mem ∧
    (s.moverRead data).pending = s.pending := by
  unfold State.moverRead; dsimp only; (repeat' split) <;> simp

@[simp] theorem State.progressTo_frame (s : State) (p : Nat) (c : Cursor) :
    (s.progressTo p c).station = s.station ∧ (s.progressTo p c).bus = s.bus ∧ (s.progressTo p c).arb = s.arb ∧
    (s.progressTo p c).engine = s.engine ∧ (s.progressTo p c).notes = s.notes ∧
    (s.progressTo p c).triggers = s.triggers ∧ (s.progressTo p c).port = s.port ∧
    (s.progressTo p c).loader = s.loader ∧ (s.progressTo p c).mover = s.mover ∧
    (s.progressTo p c).writer = s.writer ∧ (s.progressTo p c).copier = s.copier ∧ (s.progressTo p c).host = s.host ∧
    (s.progressTo p c).mem = s.mem ∧ (s.progressTo p c).pending = s.pending := by
  unfold State.progressTo; (repeat' split) <;> simp

@[simp] theorem State.storeEnded_frame (s : State) (h : HeldPayload) :
    (s.storeEnded h).station = s.station ∧ (s.storeEnded h).bus = s.bus ∧ (s.storeEnded h).arb = s.arb ∧
    (s.storeEnded h).notes = s.notes ∧ (s.storeEnded h).triggers = s.triggers ∧ (s.storeEnded h).loader = s.loader ∧
    (s.storeEnded h).writer = s.writer ∧ (s.storeEnded h).copier = s.copier ∧ (s.storeEnded h).host = s.host ∧
    (s.storeEnded h).mem = s.mem ∧ (s.storeEnded h).pending = s.pending := by
  unfold State.storeEnded; dsimp only; (repeat' split) <;> simp

@[simp] theorem State.moverWrote_frame (s : State) (n : Nat) :
    (s.moverWrote n).station = s.station ∧ (s.moverWrote n).bus = s.bus ∧ (s.moverWrote n).arb = s.arb ∧
    (s.moverWrote n).notes = s.notes ∧ (s.moverWrote n).triggers = s.triggers ∧ (s.moverWrote n).loader = s.loader ∧
    (s.moverWrote n).writer = s.writer ∧ (s.moverWrote n).copier = s.copier ∧ (s.moverWrote n).host = s.host ∧
    (s.moverWrote n).mem = s.mem ∧ (s.moverWrote n).pending = s.pending := by
  unfold State.moverWrote; dsimp only; (repeat' split) <;> simp

@[simp] theorem State.walkerRead_frame (s : State) (data : List Byte) :
    (s.walkerRead data).station = s.station ∧ (s.walkerRead data).bus = s.bus ∧ (s.walkerRead data).arb = s.arb ∧
    (s.walkerRead data).sched = s.sched ∧ (s.walkerRead data).service = s.service ∧
    (s.walkerRead data).notes = s.notes ∧ (s.walkerRead data).triggers = s.triggers ∧
    (s.walkerRead data).loader = s.loader ∧ (s.walkerRead data).writer = s.writer ∧
    (s.walkerRead data).copier = s.copier ∧ (s.walkerRead data).host = s.host ∧ (s.walkerRead data).mem = s.mem ∧
    (s.walkerRead data).pending = s.pending := by
  unfold State.walkerRead; dsimp only; (repeat' split) <;> simp

@[simp] theorem State.moverRestart_frame (s : State) :
    (s.moverRestart).station = s.station ∧ (s.moverRestart).bus = s.bus ∧ (s.moverRestart).arb = s.arb ∧
    (s.moverRestart).engine = s.engine ∧ (s.moverRestart).sched = s.sched ∧ (s.moverRestart).service = s.service ∧
    (s.moverRestart).notes = s.notes ∧ (s.moverRestart).triggers = s.triggers ∧ (s.moverRestart).loader = s.loader ∧
    (s.moverRestart).writer = s.writer ∧ (s.moverRestart).copier = s.copier ∧ (s.moverRestart).host = s.host ∧
    (s.moverRestart).mem = s.mem ∧ (s.moverRestart).pending = s.pending := by
  unfold State.moverRestart; dsimp only; (repeat' split) <;> simp

@[simp] theorem State.hearPartner_frame (s : State) :
    (s.hearPartner).station = s.station ∧ (s.hearPartner).arb = s.arb ∧ (s.hearPartner).sched = s.sched ∧
    (s.hearPartner).service = s.service ∧ (s.hearPartner).notes = s.notes ∧ (s.hearPartner).triggers = s.triggers ∧
    (s.hearPartner).port = s.port ∧ (s.hearPartner).loader = s.loader ∧ (s.hearPartner).mover = s.mover ∧
    (s.hearPartner).writer = s.writer ∧ (s.hearPartner).copier = s.copier ∧ (s.hearPartner).host = s.host ∧
    (s.hearPartner).mem = s.mem ∧ (s.hearPartner).pending = s.pending := by
  unfold State.hearPartner; (repeat' split) <;> simp

@[simp] theorem State.close_frame (s : State) (c : ClosingFrame) :
    (s.close c).station = s.station ∧ (s.close c).arb = s.arb ∧ (s.close c).sched = s.sched ∧
    (s.close c).service = s.service ∧ (s.close c).notes = s.notes ∧ (s.close c).triggers = s.triggers ∧
    (s.close c).loader = s.loader ∧ (s.close c).writer = s.writer ∧ (s.close c).copier = s.copier ∧
    (s.close c).host = s.host ∧ (s.close c).mem = s.mem ∧ (s.close c).pending = s.pending := by
  unfold State.close; dsimp only; (repeat' split) <;> simp

@[simp] theorem State.closeAtOnce_frame (s : State) (c : ClosingFrame) :
    (s.closeAtOnce c).station = s.station ∧ (s.closeAtOnce c).arb = s.arb ∧ (s.closeAtOnce c).sched = s.sched ∧
    (s.closeAtOnce c).service = s.service ∧ (s.closeAtOnce c).notes = s.notes ∧ (s.closeAtOnce c).triggers = s.triggers ∧
    (s.closeAtOnce c).loader = s.loader ∧ (s.closeAtOnce c).writer = s.writer ∧ (s.closeAtOnce c).copier = s.copier ∧
    (s.closeAtOnce c).host = s.host ∧ (s.closeAtOnce c).mem = s.mem ∧ (s.closeAtOnce c).pending = s.pending := by
  unfold State.closeAtOnce; dsimp only; (repeat' split) <;> simp

@[simp] theorem State.closeAt_frame (s : State) (complete : Bool) (r : DisconnectReason) :
    (s.closeAt complete r).station = s.station ∧ (s.closeAt complete r).arb = s.arb ∧
    (s.closeAt complete r).sched = s.sched ∧ (s.closeAt complete r).service = s.service ∧
    (s.closeAt complete r).notes = s.notes ∧ (s.closeAt complete r).triggers = s.triggers ∧
    (s.closeAt complete r).loader = s.loader ∧ (s.closeAt complete r).writer = s.writer ∧
    (s.closeAt complete r).copier = s.copier ∧ (s.closeAt complete r).host = s.host ∧
    (s.closeAt complete r).mem = s.mem ∧ (s.closeAt complete r).pending = s.pending := by
  unfold State.closeAt; (repeat' split) <;> simp

@[simp] theorem State.readPoint_frame (s : State) :
    (s.readPoint).station = s.station ∧ (s.readPoint).arb = s.arb ∧ (s.readPoint).sched = s.sched ∧
    (s.readPoint).service = s.service ∧ (s.readPoint).notes = s.notes ∧ (s.readPoint).triggers = s.triggers ∧
    (s.readPoint).loader = s.loader ∧ (s.readPoint).writer = s.writer ∧ (s.readPoint).copier = s.copier ∧
    (s.readPoint).host = s.host ∧ (s.readPoint).mem = s.mem ∧ (s.readPoint).pending = s.pending := by
  unfold State.readPoint; (repeat' split) <;> simp

@[simp] theorem State.writePoint_frame (s : State) :
    (s.writePoint).station = s.station ∧ (s.writePoint).arb = s.arb ∧ (s.writePoint).sched = s.sched ∧
    (s.writePoint).service = s.service ∧ (s.writePoint).notes = s.notes ∧ (s.writePoint).triggers = s.triggers ∧
    (s.writePoint).loader = s.loader ∧ (s.writePoint).writer = s.writer ∧ (s.writePoint).copier = s.copier ∧
    (s.writePoint).host = s.host ∧ (s.writePoint).mem = s.mem ∧ (s.writePoint).pending = s.pending := by
  unfold State.writePoint; (repeat' split) <;> simp

@[simp] theorem State.targetPoint_frame (s : State) :
    (s.targetPoint).station = s.station ∧ (s.targetPoint).arb = s.arb ∧ (s.targetPoint).sched = s.sched ∧
    (s.targetPoint).service = s.service ∧ (s.targetPoint).notes = s.notes ∧ (s.targetPoint).triggers = s.triggers ∧
    (s.targetPoint).loader = s.loader ∧ (s.targetPoint).writer = s.writer ∧ (s.targetPoint).copier = s.copier ∧
    (s.targetPoint).host = s.host ∧ (s.targetPoint).mem = s.mem ∧ (s.targetPoint).pending = s.pending := by
  unfold State.targetPoint; (repeat' split) <;> simp

@[simp] theorem State.beginTenure_frame (s : State) (start : Nat) :
    (s.beginTenure start).station = s.station ∧ (s.beginTenure start).arb = s.arb ∧
    (s.beginTenure start).sched = s.sched ∧ (s.beginTenure start).service = s.service ∧
    (s.beginTenure start).notes = s.notes ∧ (s.beginTenure start).triggers = s.triggers ∧
    (s.beginTenure start).loader = s.loader ∧ (s.beginTenure start).writer = s.writer ∧
    (s.beginTenure start).copier = s.copier ∧ (s.beginTenure start).host = s.host ∧
    (s.beginTenure start).mem = s.mem ∧ (s.beginTenure start).pending = s.pending := by
  unfold State.beginTenure; dsimp only; (repeat' split) <;> simp

@[simp] theorem State.endSide_frame (s : State) (o : ExchangeOutcome) :
    (s.endSide o).station = s.station ∧ (s.endSide o).triggers = s.triggers ∧ (s.endSide o).loader = s.loader ∧
    (s.endSide o).writer = s.writer ∧ (s.endSide o).copier = s.copier ∧ (s.endSide o).mem = s.mem ∧
    (s.endSide o).pending = s.pending := by
  unfold State.endSide; dsimp only; (repeat' split) <;> simp

@[simp] theorem State.endSilent_frame (s : State) :
    (s.endSilent).station = s.station ∧ (s.endSilent).triggers = s.triggers ∧ (s.endSilent).loader = s.loader ∧
    (s.endSilent).writer = s.writer ∧ (s.endSilent).copier = s.copier ∧ (s.endSilent).mem = s.mem ∧
    (s.endSilent).pending = s.pending := by
  unfold State.endSilent; dsimp only; (repeat' split) <;> simp

@[simp] theorem State.senderDone_frame (s : State) :
    (s.senderDone).station = s.station ∧ (s.senderDone).arb = s.arb ∧ (s.senderDone).sched = s.sched ∧
    (s.senderDone).service = s.service ∧ (s.senderDone).notes = s.notes ∧ (s.senderDone).triggers = s.triggers ∧
    (s.senderDone).loader = s.loader ∧ (s.senderDone).writer = s.writer ∧ (s.senderDone).copier = s.copier ∧
    (s.senderDone).host = s.host ∧ (s.senderDone).mem = s.mem ∧ (s.senderDone).pending = s.pending := by
  unfold State.senderDone; (repeat' split) <;> simp

@[simp] theorem State.acknowledge_frame (s : State) (acked : List SentFrame) (rest : List SentFrame) :
    (s.acknowledge acked rest).station = s.station ∧ (s.acknowledge acked rest).bus = s.bus ∧
    (s.acknowledge acked rest).arb = s.arb ∧ (s.acknowledge acked rest).notes = s.notes ∧
    (s.acknowledge acked rest).triggers = s.triggers ∧ (s.acknowledge acked rest).loader = s.loader ∧
    (s.acknowledge acked rest).writer = s.writer ∧ (s.acknowledge acked rest).copier = s.copier ∧
    (s.acknowledge acked rest).host = s.host ∧ (s.acknowledge acked rest).mem = s.mem ∧
    (s.acknowledge acked rest).pending = s.pending := by
  unfold State.acknowledge; dsimp only; (repeat' split) <;> simp

@[simp] theorem State.checkRetries_frame (s : State) :
    (s.checkRetries).station = s.station ∧ (s.checkRetries).bus = s.bus ∧ (s.checkRetries).arb = s.arb ∧
    (s.checkRetries).sched = s.sched ∧ (s.checkRetries).service = s.service ∧ (s.checkRetries).notes = s.notes ∧
    (s.checkRetries).triggers = s.triggers ∧ (s.checkRetries).port = s.port ∧ (s.checkRetries).loader = s.loader ∧
    (s.checkRetries).mover = s.mover ∧ (s.checkRetries).writer = s.writer ∧ (s.checkRetries).copier = s.copier ∧
    (s.checkRetries).host = s.host ∧ (s.checkRetries).mem = s.mem ∧ (s.checkRetries).pending = s.pending := by
  unfold State.checkRetries; (repeat' split) <;> simp

@[simp] theorem State.goBack_frame (s : State) :
    (s.goBack).station = s.station ∧ (s.goBack).bus = s.bus ∧ (s.goBack).arb = s.arb ∧ (s.goBack).sched = s.sched ∧
    (s.goBack).service = s.service ∧ (s.goBack).notes = s.notes ∧ (s.goBack).triggers = s.triggers ∧
    (s.goBack).loader = s.loader ∧ (s.goBack).writer = s.writer ∧ (s.goBack).copier = s.copier ∧
    (s.goBack).host = s.host ∧ (s.goBack).mem = s.mem ∧ (s.goBack).pending = s.pending := by
  unfold State.goBack; dsimp only; (repeat' split) <;> simp

@[simp] theorem State.takeAck_frame (s : State) (q : SeqNo) :
    (s.takeAck q).station = s.station ∧ (s.takeAck q).arb = s.arb ∧ (s.takeAck q).notes = s.notes ∧
    (s.takeAck q).triggers = s.triggers ∧ (s.takeAck q).loader = s.loader ∧ (s.takeAck q).writer = s.writer ∧
    (s.takeAck q).copier = s.copier ∧ (s.takeAck q).host = s.host ∧ (s.takeAck q).mem = s.mem ∧
    (s.takeAck q).pending = s.pending := by
  unfold State.takeAck; dsimp only; (repeat' split) <;> simp

@[simp] theorem State.takeNak_frame (s : State) (q : SeqNo) :
    (s.takeNak q).station = s.station ∧ (s.takeNak q).arb = s.arb ∧ (s.takeNak q).notes = s.notes ∧
    (s.takeNak q).triggers = s.triggers ∧ (s.takeNak q).loader = s.loader ∧ (s.takeNak q).writer = s.writer ∧
    (s.takeNak q).copier = s.copier ∧ (s.takeNak q).host = s.host ∧ (s.takeNak q).mem = s.mem ∧
    (s.takeNak q).pending = s.pending := by
  unfold State.takeNak; dsimp only; (repeat' split) <;> simp

@[simp] theorem State.sendDataFrame_frame (s : State) :
    (s.sendDataFrame).station = s.station ∧ (s.sendDataFrame).arb = s.arb ∧ (s.sendDataFrame).sched = s.sched ∧
    (s.sendDataFrame).service = s.service ∧ (s.sendDataFrame).notes = s.notes ∧
    (s.sendDataFrame).triggers = s.triggers ∧ (s.sendDataFrame).loader = s.loader ∧
    (s.sendDataFrame).writer = s.writer ∧ (s.sendDataFrame).copier = s.copier ∧ (s.sendDataFrame).host = s.host ∧
    (s.sendDataFrame).mem = s.mem ∧ (s.sendDataFrame).pending = s.pending := by
  unfold State.sendDataFrame; dsimp only; (repeat' split) <;> simp

@[simp] theorem State.takeInOrder_frame (s : State) (seq : SeqNo) (payload : List Byte) :
    (s.takeInOrder seq payload).station = s.station ∧ (s.takeInOrder seq payload).bus = s.bus ∧
    (s.takeInOrder seq payload).arb = s.arb ∧ (s.takeInOrder seq payload).sched = s.sched ∧
    (s.takeInOrder seq payload).service = s.service ∧ (s.takeInOrder seq payload).triggers = s.triggers ∧
    (s.takeInOrder seq payload).loader = s.loader ∧ (s.takeInOrder seq payload).writer = s.writer ∧
    (s.takeInOrder seq payload).copier = s.copier ∧ (s.takeInOrder seq payload).mem = s.mem ∧
    (s.takeInOrder seq payload).pending = s.pending := by
  unfold State.takeInOrder; dsimp only; (repeat' split) <;> simp

@[simp] theorem State.takeAhead_frame (s : State) :
    (s.takeAhead).station = s.station ∧ (s.takeAhead).arb = s.arb ∧ (s.takeAhead).sched = s.sched ∧
    (s.takeAhead).service = s.service ∧ (s.takeAhead).notes = s.notes ∧ (s.takeAhead).triggers = s.triggers ∧
    (s.takeAhead).port = s.port ∧ (s.takeAhead).loader = s.loader ∧ (s.takeAhead).mover = s.mover ∧
    (s.takeAhead).writer = s.writer ∧ (s.takeAhead).copier = s.copier ∧ (s.takeAhead).host = s.host ∧
    (s.takeAhead).mem = s.mem ∧ (s.takeAhead).pending = s.pending := by
  unfold State.takeAhead; (repeat' split) <;> simp

@[simp] theorem State.takeData_frame (s : State) (seq : SeqNo) (payload : List Byte) :
    (s.takeData seq payload).station = s.station ∧ (s.takeData seq payload).arb = s.arb ∧
    (s.takeData seq payload).sched = s.sched ∧ (s.takeData seq payload).service = s.service ∧
    (s.takeData seq payload).triggers = s.triggers ∧ (s.takeData seq payload).loader = s.loader ∧
    (s.takeData seq payload).writer = s.writer ∧ (s.takeData seq payload).copier = s.copier ∧
    (s.takeData seq payload).mem = s.mem ∧ (s.takeData seq payload).pending = s.pending := by
  unfold State.takeData; dsimp only; (repeat' split) <;> simp

@[simp] theorem State.sendAckFrame_frame (s : State) :
    (s.sendAckFrame).station = s.station ∧ (s.sendAckFrame).arb = s.arb ∧ (s.sendAckFrame).sched = s.sched ∧
    (s.sendAckFrame).service = s.service ∧ (s.sendAckFrame).notes = s.notes ∧
    (s.sendAckFrame).triggers = s.triggers ∧ (s.sendAckFrame).port = s.port ∧ (s.sendAckFrame).loader = s.loader ∧
    (s.sendAckFrame).mover = s.mover ∧ (s.sendAckFrame).writer = s.writer ∧ (s.sendAckFrame).copier = s.copier ∧
    (s.sendAckFrame).host = s.host ∧ (s.sendAckFrame).mem = s.mem ∧ (s.sendAckFrame).pending = s.pending := by
  unfold State.sendAckFrame; (repeat' split) <;> simp

@[simp] theorem State.answerEnd_frame (s : State) :
    (s.answerEnd).station = s.station ∧ (s.answerEnd).arb = s.arb ∧ (s.answerEnd).sched = s.sched ∧
    (s.answerEnd).service = s.service ∧ (s.answerEnd).notes = s.notes ∧ (s.answerEnd).triggers = s.triggers ∧
    (s.answerEnd).loader = s.loader ∧ (s.answerEnd).writer = s.writer ∧ (s.answerEnd).copier = s.copier ∧
    (s.answerEnd).host = s.host ∧ (s.answerEnd).mem = s.mem ∧ (s.answerEnd).pending = s.pending := by
  unfold State.answerEnd; dsimp only; (repeat' split) <;> simp

@[simp] theorem State.takeFinish_frame (s : State) (total : Nat) :
    (s.takeFinish total).station = s.station ∧ (s.takeFinish total).arb = s.arb ∧
    (s.takeFinish total).notes = s.notes ∧ (s.takeFinish total).triggers = s.triggers ∧
    (s.takeFinish total).loader = s.loader ∧ (s.takeFinish total).writer = s.writer ∧
    (s.takeFinish total).copier = s.copier ∧ (s.takeFinish total).host = s.host ∧ (s.takeFinish total).mem = s.mem ∧
    (s.takeFinish total).pending = s.pending := by
  unfold State.takeFinish; dsimp only; (repeat' split) <;> simp

@[simp] theorem State.takeDisconnect_frame (s : State) (offset : Nat) :
    (s.takeDisconnect offset).station = s.station ∧ (s.takeDisconnect offset).arb = s.arb ∧
    (s.takeDisconnect offset).notes = s.notes ∧ (s.takeDisconnect offset).triggers = s.triggers ∧
    (s.takeDisconnect offset).loader = s.loader ∧ (s.takeDisconnect offset).writer = s.writer ∧
    (s.takeDisconnect offset).copier = s.copier ∧ (s.takeDisconnect offset).host = s.host ∧
    (s.takeDisconnect offset).mem = s.mem ∧ (s.takeDisconnect offset).pending = s.pending := by
  unfold State.takeDisconnect; dsimp only; (repeat' split) <;> simp

@[simp] theorem State.closingDone_frame (s : State) :
    (s.closingDone).station = s.station ∧ (s.closingDone).sched = s.sched ∧ (s.closingDone).triggers = s.triggers ∧
    (s.closingDone).loader = s.loader ∧ (s.closingDone).writer = s.writer ∧ (s.closingDone).copier = s.copier ∧
    (s.closingDone).mem = s.mem ∧ (s.closingDone).pending = s.pending := by
  unfold State.closingDone; dsimp only; (repeat' split) <;> simp

@[simp] theorem State.withdrawDone_frame (s : State) :
    (s.withdrawDone).station = s.station ∧ (s.withdrawDone).sched = s.sched ∧
    (s.withdrawDone).triggers = s.triggers ∧ (s.withdrawDone).loader = s.loader ∧
    (s.withdrawDone).writer = s.writer ∧ (s.withdrawDone).copier = s.copier ∧ (s.withdrawDone).mem = s.mem ∧
    (s.withdrawDone).pending = s.pending := by
  unfold State.withdrawDone; dsimp only; (repeat' split) <;> simp

@[simp] theorem State.closeAgain_frame (s : State) (b : Body) :
    (s.closeAgain b).station = s.station ∧ (s.closeAgain b).arb = s.arb ∧ (s.closeAgain b).sched = s.sched ∧
    (s.closeAgain b).service = s.service ∧ (s.closeAgain b).notes = s.notes ∧
    (s.closeAgain b).triggers = s.triggers ∧ (s.closeAgain b).port = s.port ∧ (s.closeAgain b).loader = s.loader ∧
    (s.closeAgain b).mover = s.mover ∧ (s.closeAgain b).writer = s.writer ∧ (s.closeAgain b).copier = s.copier ∧
    (s.closeAgain b).host = s.host ∧ (s.closeAgain b).mem = s.mem ∧ (s.closeAgain b).pending = s.pending := by
  unfold State.closeAgain; (repeat' split) <;> simp

@[simp] theorem State.closeExpired_frame (s : State) :
    (s.closeExpired).station = s.station ∧ (s.closeExpired).sched = s.sched ∧
    (s.closeExpired).triggers = s.triggers ∧ (s.closeExpired).loader = s.loader ∧
    (s.closeExpired).writer = s.writer ∧ (s.closeExpired).copier = s.copier ∧ (s.closeExpired).mem = s.mem ∧
    (s.closeExpired).pending = s.pending := by
  unfold State.closeExpired; (repeat' split) <;> simp

@[simp] theorem State.answeringEnds_frame (s : State) :
    (s.answeringEnds).station = s.station ∧ (s.answeringEnds).triggers = s.triggers ∧
    (s.answeringEnds).loader = s.loader ∧ (s.answeringEnds).writer = s.writer ∧
    (s.answeringEnds).copier = s.copier ∧ (s.answeringEnds).mem = s.mem ∧
    (s.answeringEnds).pending = s.pending := by
  unfold State.answeringEnds; (repeat' split) <;> simp

@[simp] theorem State.releaseSeen_frame (s : State) :
    (s.releaseSeen).station = s.station ∧ (s.releaseSeen).triggers = s.triggers ∧
    (s.releaseSeen).loader = s.loader ∧ (s.releaseSeen).writer = s.writer ∧ (s.releaseSeen).copier = s.copier ∧
    (s.releaseSeen).mem = s.mem ∧ (s.releaseSeen).pending = s.pending := by
  unfold State.releaseSeen; (repeat' split) <;> simp

@[simp] theorem State.sourceReport_frame (s : State) (p : StationId) :
    (s.sourceReport p).bus = s.bus ∧ (s.sourceReport p).arb = s.arb ∧ (s.sourceReport p).engine = s.engine ∧
    (s.sourceReport p).sched = s.sched ∧ (s.sourceReport p).service = s.service ∧
    (s.sourceReport p).notes = s.notes ∧ (s.sourceReport p).triggers = s.triggers ∧
    (s.sourceReport p).port = s.port ∧ (s.sourceReport p).loader = s.loader ∧ (s.sourceReport p).mover = s.mover ∧
    (s.sourceReport p).writer = s.writer ∧ (s.sourceReport p).copier = s.copier ∧ (s.sourceReport p).host = s.host ∧
    (s.sourceReport p).mem = s.mem ∧ (s.sourceReport p).pending = s.pending := by
  unfold State.sourceReport; (repeat' split) <;> simp

@[simp] theorem State.forgetPeers_frame (s : State) :
    (s.forgetPeers).bus = s.bus ∧ (s.forgetPeers).arb = s.arb ∧ (s.forgetPeers).engine = s.engine ∧
    (s.forgetPeers).sched = s.sched ∧ (s.forgetPeers).service = s.service ∧ (s.forgetPeers).notes = s.notes ∧
    (s.forgetPeers).triggers = s.triggers ∧ (s.forgetPeers).port = s.port ∧ (s.forgetPeers).loader = s.loader ∧
    (s.forgetPeers).mover = s.mover ∧ (s.forgetPeers).writer = s.writer ∧ (s.forgetPeers).copier = s.copier ∧
    (s.forgetPeers).host = s.host ∧ (s.forgetPeers).mem = s.mem ∧ (s.forgetPeers).pending = s.pending := by
  unfold State.forgetPeers; (repeat' split) <;> simp

@[simp] theorem State.silence_frame (s : State) (p : StationId) :
    (s.silence p).triggers = s.triggers ∧ (s.silence p).loader = s.loader ∧ (s.silence p).writer = s.writer ∧
    (s.silence p).copier = s.copier ∧ (s.silence p).mem = s.mem ∧ (s.silence p).pending = s.pending := by
  unfold State.silence; (repeat' split) <;> simp

@[simp] theorem State.peerNoAnswer_frame (s : State) (p : StationId) :
    (s.peerNoAnswer p).triggers = s.triggers ∧ (s.peerNoAnswer p).loader = s.loader ∧
    (s.peerNoAnswer p).writer = s.writer ∧ (s.peerNoAnswer p).copier = s.copier ∧ (s.peerNoAnswer p).mem = s.mem ∧
    (s.peerNoAnswer p).pending = s.pending := by
  unfold State.peerNoAnswer; dsimp only; (repeat' split) <;> simp

@[simp] theorem State.goOffline_frame (s : State) (cause : OfflineCause) :
    (s.goOffline cause).engine = s.engine ∧ (s.goOffline cause).sched = s.sched ∧
    (s.goOffline cause).notes = s.notes ∧ (s.goOffline cause).triggers = s.triggers ∧
    (s.goOffline cause).port = s.port ∧ (s.goOffline cause).loader = s.loader ∧
    (s.goOffline cause).mover = s.mover ∧ (s.goOffline cause).writer = s.writer ∧
    (s.goOffline cause).copier = s.copier ∧ (s.goOffline cause).mem = s.mem ∧
    (s.goOffline cause).pending = s.pending := by
  unfold State.goOffline; (repeat' split) <;> simp

@[simp] theorem State.joiningConflict_frame (s : State) :
    (s.joiningConflict).engine = s.engine ∧ (s.joiningConflict).sched = s.sched ∧
    (s.joiningConflict).notes = s.notes ∧ (s.joiningConflict).triggers = s.triggers ∧
    (s.joiningConflict).port = s.port ∧ (s.joiningConflict).loader = s.loader ∧
    (s.joiningConflict).mover = s.mover ∧ (s.joiningConflict).writer = s.writer ∧
    (s.joiningConflict).copier = s.copier ∧ (s.joiningConflict).mem = s.mem ∧
    (s.joiningConflict).pending = s.pending := by
  unfold State.joiningConflict; (repeat' split) <;> simp

@[simp] theorem State.stopLoad_frame (s : State) :
    (s.stopLoad).station = s.station ∧ (s.stopLoad).bus = s.bus ∧ (s.stopLoad).arb = s.arb ∧
    (s.stopLoad).engine = s.engine ∧ (s.stopLoad).sched = s.sched ∧ (s.stopLoad).service = s.service ∧
    (s.stopLoad).notes = s.notes ∧ (s.stopLoad).triggers = s.triggers ∧ (s.stopLoad).port = s.port ∧
    (s.stopLoad).mover = s.mover ∧ (s.stopLoad).writer = s.writer ∧ (s.stopLoad).copier = s.copier ∧
    (s.stopLoad).host = s.host ∧ (s.stopLoad).mem = s.mem ∧ (s.stopLoad).pending = s.pending := by
  unfold State.stopLoad; (repeat' split) <;> simp

@[simp] theorem State.idConflict_frame (s : State) :
    (s.idConflict).triggers = s.triggers ∧ (s.idConflict).writer = s.writer ∧ (s.idConflict).copier = s.copier ∧
    (s.idConflict).mem = s.mem ∧ (s.idConflict).pending = s.pending := by
  unfold State.idConflict; dsimp only; (repeat' split) <;> simp

@[simp] theorem State.drainTest_frame (s : State) :
    (s.drainTest).engine = s.engine ∧ (s.drainTest).sched = s.sched ∧ (s.drainTest).notes = s.notes ∧
    (s.drainTest).triggers = s.triggers ∧ (s.drainTest).port = s.port ∧ (s.drainTest).loader = s.loader ∧
    (s.drainTest).mover = s.mover ∧ (s.drainTest).writer = s.writer ∧ (s.drainTest).copier = s.copier ∧
    (s.drainTest).mem = s.mem ∧ (s.drainTest).pending = s.pending := by
  unfold State.drainTest; (repeat' split) <;> simp

@[simp] theorem State.softReset_frame (s : State) :
    (s.softReset).triggers = s.triggers ∧ (s.softReset).mem = s.mem ∧ (s.softReset).pending = s.pending := by
  unfold State.softReset; (repeat' split) <;> simp

@[simp] theorem State.powerOn_frame (s : State) (levels : BitVec 4) (resetLine : Bool) :
    (s.powerOn levels resetLine).pending = s.pending := by
  unfold State.powerOn; (repeat' split) <;> simp

@[simp] theorem State.restartRollCall_frame (s : State) :
    (s.restartRollCall).bus = s.bus ∧ (s.restartRollCall).arb = s.arb ∧ (s.restartRollCall).engine = s.engine ∧
    (s.restartRollCall).sched = s.sched ∧ (s.restartRollCall).service = s.service ∧
    (s.restartRollCall).notes = s.notes ∧ (s.restartRollCall).triggers = s.triggers ∧
    (s.restartRollCall).port = s.port ∧ (s.restartRollCall).loader = s.loader ∧
    (s.restartRollCall).mover = s.mover ∧ (s.restartRollCall).writer = s.writer ∧
    (s.restartRollCall).copier = s.copier ∧ (s.restartRollCall).host = s.host ∧ (s.restartRollCall).mem = s.mem ∧
    (s.restartRollCall).pending = s.pending := by
  unfold State.restartRollCall; (repeat' split) <;> simp

@[simp] theorem State.busReset_frame (s : State) :
    (s.busReset).triggers = s.triggers ∧ (s.busReset).loader = s.loader ∧ (s.busReset).writer = s.writer ∧
    (s.busReset).copier = s.copier ∧ (s.busReset).mem = s.mem ∧ (s.busReset).pending = s.pending := by
  unfold State.busReset; dsimp only; (repeat' split) <;> simp

@[simp] theorem State.roundOpens_frame (s : State) :
    (s.roundOpens).station = s.station ∧ (s.roundOpens).engine = s.engine ∧ (s.roundOpens).sched = s.sched ∧
    (s.roundOpens).service = s.service ∧ (s.roundOpens).notes = s.notes ∧ (s.roundOpens).triggers = s.triggers ∧
    (s.roundOpens).port = s.port ∧ (s.roundOpens).loader = s.loader ∧ (s.roundOpens).mover = s.mover ∧
    (s.roundOpens).writer = s.writer ∧ (s.roundOpens).copier = s.copier ∧ (s.roundOpens).host = s.host ∧
    (s.roundOpens).mem = s.mem ∧ (s.roundOpens).pending = s.pending := by
  unfold State.roundOpens; (repeat' split) <;> simp

@[simp] theorem State.enterRound_frame (s : State) (w : Want) :
    (s.enterRound w).station = s.station ∧ (s.enterRound w).engine = s.engine ∧ (s.enterRound w).sched = s.sched ∧
    (s.enterRound w).service = s.service ∧ (s.enterRound w).notes = s.notes ∧
    (s.enterRound w).triggers = s.triggers ∧ (s.enterRound w).port = s.port ∧ (s.enterRound w).loader = s.loader ∧
    (s.enterRound w).mover = s.mover ∧ (s.enterRound w).writer = s.writer ∧ (s.enterRound w).copier = s.copier ∧
    (s.enterRound w).host = s.host ∧ (s.enterRound w).mem = s.mem ∧ (s.enterRound w).pending = s.pending := by
  unfold State.enterRound; (repeat' split) <;> simp

@[simp] theorem State.heldByOther_frame (s : State) :
    (s.heldByOther).station = s.station ∧ (s.heldByOther).arb = s.arb ∧ (s.heldByOther).engine = s.engine ∧
    (s.heldByOther).sched = s.sched ∧ (s.heldByOther).service = s.service ∧ (s.heldByOther).notes = s.notes ∧
    (s.heldByOther).triggers = s.triggers ∧ (s.heldByOther).port = s.port ∧ (s.heldByOther).loader = s.loader ∧
    (s.heldByOther).mover = s.mover ∧ (s.heldByOther).writer = s.writer ∧ (s.heldByOther).copier = s.copier ∧
    (s.heldByOther).host = s.host ∧ (s.heldByOther).mem = s.mem ∧ (s.heldByOther).pending = s.pending := by
  unfold State.heldByOther; (repeat' split) <;> simp

@[simp] theorem State.openCall_frame (s : State) (role : ExchangeRole) (k : Key) (purpose : Purpose) (op :
    Operation) (length : Nat) (call : Body) :
    (s.openCall role k purpose op length call).station = s.station ∧
    (s.openCall role k purpose op length call).arb = s.arb ∧
    (s.openCall role k purpose op length call).sched = s.sched ∧
    (s.openCall role k purpose op length call).service = s.service ∧
    (s.openCall role k purpose op length call).notes = s.notes ∧
    (s.openCall role k purpose op length call).triggers = s.triggers ∧
    (s.openCall role k purpose op length call).port = s.port ∧
    (s.openCall role k purpose op length call).loader = s.loader ∧
    (s.openCall role k purpose op length call).mover = s.mover ∧
    (s.openCall role k purpose op length call).writer = s.writer ∧
    (s.openCall role k purpose op length call).copier = s.copier ∧
    (s.openCall role k purpose op length call).host = s.host ∧
    (s.openCall role k purpose op length call).mem = s.mem ∧
    (s.openCall role k purpose op length call).pending = s.pending := by
  unfold State.openCall; dsimp only; (repeat' split) <;> simp

@[simp] theorem State.handOver_frame (s : State) (w : Want) :
    (s.handOver w).station = s.station ∧ (s.handOver w).sched = s.sched ∧ (s.handOver w).service = s.service ∧
    (s.handOver w).notes = s.notes ∧ (s.handOver w).triggers = s.triggers ∧ (s.handOver w).port = s.port ∧
    (s.handOver w).loader = s.loader ∧ (s.handOver w).mover = s.mover ∧ (s.handOver w).writer = s.writer ∧
    (s.handOver w).copier = s.copier ∧ (s.handOver w).host = s.host ∧ (s.handOver w).mem = s.mem ∧
    (s.handOver w).pending = s.pending := by
  unfold State.handOver; dsimp only; (repeat' split) <;> simp

@[simp] theorem State.roundWon_frame (s : State) :
    (s.roundWon).station = s.station ∧ (s.roundWon).sched = s.sched ∧ (s.roundWon).service = s.service ∧
    (s.roundWon).notes = s.notes ∧ (s.roundWon).triggers = s.triggers ∧ (s.roundWon).port = s.port ∧
    (s.roundWon).loader = s.loader ∧ (s.roundWon).mover = s.mover ∧ (s.roundWon).writer = s.writer ∧
    (s.roundWon).copier = s.copier ∧ (s.roundWon).host = s.host ∧ (s.roundWon).mem = s.mem ∧
    (s.roundWon).pending = s.pending := by
  unfold State.roundWon; dsimp only; (repeat' split) <;> simp

@[simp] theorem State.yieldPath_frame (s : State) :
    (s.yieldPath).station = s.station ∧ (s.yieldPath).arb = s.arb ∧ (s.yieldPath).engine = s.engine ∧
    (s.yieldPath).sched = s.sched ∧ (s.yieldPath).service = s.service ∧ (s.yieldPath).notes = s.notes ∧
    (s.yieldPath).triggers = s.triggers ∧ (s.yieldPath).port = s.port ∧ (s.yieldPath).loader = s.loader ∧
    (s.yieldPath).mover = s.mover ∧ (s.yieldPath).writer = s.writer ∧ (s.yieldPath).copier = s.copier ∧
    (s.yieldPath).host = s.host ∧ (s.yieldPath).mem = s.mem ∧ (s.yieldPath).pending = s.pending := by
  unfold State.yieldPath; dsimp only; (repeat' split) <;> simp

@[simp] theorem State.answerContext_frame (s : State) (h : FrameHead) (role : ExchangeRole) (purpose : Purpose) (op
    : Operation) (length : Nat) :
    (s.answerContext h role purpose op length).station = s.station ∧
    (s.answerContext h role purpose op length).arb = s.arb ∧
    (s.answerContext h role purpose op length).sched = s.sched ∧
    (s.answerContext h role purpose op length).service = s.service ∧
    (s.answerContext h role purpose op length).notes = s.notes ∧
    (s.answerContext h role purpose op length).triggers = s.triggers ∧
    (s.answerContext h role purpose op length).port = s.port ∧
    (s.answerContext h role purpose op length).loader = s.loader ∧
    (s.answerContext h role purpose op length).mover = s.mover ∧
    (s.answerContext h role purpose op length).writer = s.writer ∧
    (s.answerContext h role purpose op length).copier = s.copier ∧
    (s.answerContext h role purpose op length).host = s.host ∧
    (s.answerContext h role purpose op length).mem = s.mem ∧
    (s.answerContext h role purpose op length).pending = s.pending := by
  unfold State.answerContext; (repeat' split) <;> simp

@[simp] theorem State.addEntry_frame (s : State) (e : Entry) :
    (s.addEntry e).station = s.station ∧ (s.addEntry e).bus = s.bus ∧ (s.addEntry e).arb = s.arb ∧
    (s.addEntry e).engine = s.engine ∧ (s.addEntry e).sched = s.sched ∧ (s.addEntry e).notes = s.notes ∧
    (s.addEntry e).triggers = s.triggers ∧ (s.addEntry e).port = s.port ∧ (s.addEntry e).loader = s.loader ∧
    (s.addEntry e).mover = s.mover ∧ (s.addEntry e).writer = s.writer ∧ (s.addEntry e).copier = s.copier ∧
    (s.addEntry e).host = s.host ∧ (s.addEntry e).mem = s.mem ∧ (s.addEntry e).pending = s.pending := by
  unfold State.addEntry; (repeat' split) <;> simp

@[simp] theorem State.refuse_frame (s : State) (r : RefuseReason) :
    (s.refuse r).station = s.station ∧ (s.refuse r).arb = s.arb ∧ (s.refuse r).engine = s.engine ∧
    (s.refuse r).sched = s.sched ∧ (s.refuse r).service = s.service ∧ (s.refuse r).notes = s.notes ∧
    (s.refuse r).triggers = s.triggers ∧ (s.refuse r).port = s.port ∧ (s.refuse r).loader = s.loader ∧
    (s.refuse r).mover = s.mover ∧ (s.refuse r).writer = s.writer ∧ (s.refuse r).copier = s.copier ∧
    (s.refuse r).host = s.host ∧ (s.refuse r).mem = s.mem ∧ (s.refuse r).pending = s.pending := by
  unfold State.refuse; (repeat' split) <;> simp

@[simp] theorem State.takeConnect_frame (s : State) (h : FrameHead) (operation : Byte) (window : Byte) (offset :
    Nat) (length : Nat) :
    (s.takeConnect h operation window offset length).station = s.station ∧
    (s.takeConnect h operation window offset length).sched = s.sched ∧
    (s.takeConnect h operation window offset length).triggers = s.triggers ∧
    (s.takeConnect h operation window offset length).loader = s.loader ∧
    (s.takeConnect h operation window offset length).writer = s.writer ∧
    (s.takeConnect h operation window offset length).copier = s.copier ∧
    (s.takeConnect h operation window offset length).mem = s.mem ∧
    (s.takeConnect h operation window offset length).pending = s.pending := by
  unfold State.takeConnect; dsimp only; (repeat' split) <;> simp

@[simp] theorem State.takeResume_frame (s : State) (h : FrameHead) (offset : Nat) :
    (s.takeResume h offset).station = s.station ∧ (s.takeResume h offset).arb = s.arb ∧
    (s.takeResume h offset).service = s.service ∧ (s.takeResume h offset).notes = s.notes ∧
    (s.takeResume h offset).triggers = s.triggers ∧ (s.takeResume h offset).port = s.port ∧
    (s.takeResume h offset).loader = s.loader ∧ (s.takeResume h offset).mover = s.mover ∧
    (s.takeResume h offset).writer = s.writer ∧ (s.takeResume h offset).copier = s.copier ∧
    (s.takeResume h offset).host = s.host ∧ (s.takeResume h offset).mem = s.mem ∧
    (s.takeResume h offset).pending = s.pending := by
  unfold State.takeResume; dsimp only; (repeat' split) <;> simp

@[simp] theorem State.takeWithdraw_frame (s : State) (h : FrameHead) (reason : WithdrawReason) :
    (s.takeWithdraw h reason).station = s.station ∧ (s.takeWithdraw h reason).arb = s.arb ∧
    (s.takeWithdraw h reason).service = s.service ∧ (s.takeWithdraw h reason).notes = s.notes ∧
    (s.takeWithdraw h reason).triggers = s.triggers ∧ (s.takeWithdraw h reason).loader = s.loader ∧
    (s.takeWithdraw h reason).writer = s.writer ∧ (s.takeWithdraw h reason).copier = s.copier ∧
    (s.takeWithdraw h reason).host = s.host ∧ (s.takeWithdraw h reason).mem = s.mem ∧
    (s.takeWithdraw h reason).pending = s.pending := by
  unfold State.takeWithdraw; dsimp only; (repeat' split) <;> simp

@[simp] theorem State.endAgain_frame (s : State) :
    (s.endAgain).station = s.station ∧ (s.endAgain).arb = s.arb ∧ (s.endAgain).engine = s.engine ∧
    (s.endAgain).sched = s.sched ∧ (s.endAgain).service = s.service ∧ (s.endAgain).notes = s.notes ∧
    (s.endAgain).triggers = s.triggers ∧ (s.endAgain).port = s.port ∧ (s.endAgain).loader = s.loader ∧
    (s.endAgain).mover = s.mover ∧ (s.endAgain).writer = s.writer ∧ (s.endAgain).copier = s.copier ∧
    (s.endAgain).host = s.host ∧ (s.endAgain).mem = s.mem ∧ (s.endAgain).pending = s.pending := by
  unfold State.endAgain; (repeat' split) <;> simp

@[simp] theorem State.stopAnswerTimer_frame (s : State) :
    (s.stopAnswerTimer).station = s.station ∧ (s.stopAnswerTimer).bus = s.bus ∧ (s.stopAnswerTimer).arb = s.arb ∧
    (s.stopAnswerTimer).sched = s.sched ∧ (s.stopAnswerTimer).service = s.service ∧
    (s.stopAnswerTimer).notes = s.notes ∧ (s.stopAnswerTimer).triggers = s.triggers ∧
    (s.stopAnswerTimer).port = s.port ∧ (s.stopAnswerTimer).loader = s.loader ∧
    (s.stopAnswerTimer).mover = s.mover ∧ (s.stopAnswerTimer).writer = s.writer ∧
    (s.stopAnswerTimer).copier = s.copier ∧ (s.stopAnswerTimer).host = s.host ∧ (s.stopAnswerTimer).mem = s.mem ∧
    (s.stopAnswerTimer).pending = s.pending := by
  unfold State.stopAnswerTimer; (repeat' split) <;> simp

@[simp] theorem State.resumeAccepted_frame (s : State) (offset : Nat) :
    (s.resumeAccepted offset).station = s.station ∧ (s.resumeAccepted offset).sched = s.sched ∧
    (s.resumeAccepted offset).triggers = s.triggers ∧ (s.resumeAccepted offset).loader = s.loader ∧
    (s.resumeAccepted offset).writer = s.writer ∧ (s.resumeAccepted offset).copier = s.copier ∧
    (s.resumeAccepted offset).mem = s.mem ∧ (s.resumeAccepted offset).pending = s.pending := by
  unfold State.resumeAccepted; dsimp only; (repeat' split) <;> simp

@[simp] theorem State.takeAccept_frame (s : State) (offset : Nat) :
    (s.takeAccept offset).station = s.station ∧ (s.takeAccept offset).triggers = s.triggers ∧
    (s.takeAccept offset).loader = s.loader ∧ (s.takeAccept offset).writer = s.writer ∧
    (s.takeAccept offset).copier = s.copier ∧ (s.takeAccept offset).mem = s.mem ∧
    (s.takeAccept offset).pending = s.pending := by
  unfold State.takeAccept; (repeat' split) <;> simp

@[simp] theorem State.takeRefuse_frame (s : State) (reason : RefuseReason) :
    (s.takeRefuse reason).station = s.station ∧ (s.takeRefuse reason).triggers = s.triggers ∧
    (s.takeRefuse reason).loader = s.loader ∧ (s.takeRefuse reason).writer = s.writer ∧
    (s.takeRefuse reason).copier = s.copier ∧ (s.takeRefuse reason).mem = s.mem ∧
    (s.takeRefuse reason).pending = s.pending := by
  unfold State.takeRefuse; (repeat' split) <;> simp

@[simp] theorem State.takeDisconnectFrame_frame (s : State) (reason : DisconnectReason) (offset : Nat) :
    (s.takeDisconnectFrame reason offset).station = s.station ∧ (s.takeDisconnectFrame reason offset).arb = s.arb ∧
    (s.takeDisconnectFrame reason offset).notes = s.notes ∧
    (s.takeDisconnectFrame reason offset).triggers = s.triggers ∧
    (s.takeDisconnectFrame reason offset).loader = s.loader ∧
    (s.takeDisconnectFrame reason offset).writer = s.writer ∧
    (s.takeDisconnectFrame reason offset).copier = s.copier ∧ (s.takeDisconnectFrame reason offset).host = s.host ∧
    (s.takeDisconnectFrame reason offset).mem = s.mem ∧
    (s.takeDisconnectFrame reason offset).pending = s.pending := by
  unfold State.takeDisconnectFrame; (repeat' split) <;> simp

@[simp] theorem State.takeFinishFrame_frame (s : State) (total : Nat) :
    (s.takeFinishFrame total).station = s.station ∧ (s.takeFinishFrame total).arb = s.arb ∧
    (s.takeFinishFrame total).notes = s.notes ∧ (s.takeFinishFrame total).triggers = s.triggers ∧
    (s.takeFinishFrame total).loader = s.loader ∧ (s.takeFinishFrame total).writer = s.writer ∧
    (s.takeFinishFrame total).copier = s.copier ∧ (s.takeFinishFrame total).host = s.host ∧
    (s.takeFinishFrame total).mem = s.mem ∧ (s.takeFinishFrame total).pending = s.pending := by
  unfold State.takeFinishFrame; (repeat' split) <;> simp

@[simp] theorem State.takeEnd_frame (s : State) :
    (s.takeEnd).station = s.station ∧ (s.takeEnd).sched = s.sched ∧ (s.takeEnd).triggers = s.triggers ∧
    (s.takeEnd).loader = s.loader ∧ (s.takeEnd).writer = s.writer ∧ (s.takeEnd).copier = s.copier ∧
    (s.takeEnd).mem = s.mem ∧ (s.takeEnd).pending = s.pending := by
  unfold State.takeEnd; (repeat' split) <;> simp

@[simp] theorem State.takeDataFrame_frame (s : State) (seq : SeqNo) (payload : List Byte) :
    (s.takeDataFrame seq payload).station = s.station ∧ (s.takeDataFrame seq payload).arb = s.arb ∧
    (s.takeDataFrame seq payload).sched = s.sched ∧ (s.takeDataFrame seq payload).service = s.service ∧
    (s.takeDataFrame seq payload).triggers = s.triggers ∧ (s.takeDataFrame seq payload).loader = s.loader ∧
    (s.takeDataFrame seq payload).writer = s.writer ∧ (s.takeDataFrame seq payload).copier = s.copier ∧
    (s.takeDataFrame seq payload).mem = s.mem ∧ (s.takeDataFrame seq payload).pending = s.pending := by
  unfold State.takeDataFrame; (repeat' split) <;> simp

@[simp] theorem State.takeAckFrame_frame (s : State) (seq : SeqNo) :
    (s.takeAckFrame seq).station = s.station ∧ (s.takeAckFrame seq).arb = s.arb ∧
    (s.takeAckFrame seq).notes = s.notes ∧ (s.takeAckFrame seq).triggers = s.triggers ∧
    (s.takeAckFrame seq).loader = s.loader ∧ (s.takeAckFrame seq).writer = s.writer ∧
    (s.takeAckFrame seq).copier = s.copier ∧ (s.takeAckFrame seq).host = s.host ∧ (s.takeAckFrame seq).mem = s.mem ∧
    (s.takeAckFrame seq).pending = s.pending := by
  unfold State.takeAckFrame; (repeat' split) <;> simp

@[simp] theorem State.takeNakFrame_frame (s : State) (seq : SeqNo) :
    (s.takeNakFrame seq).station = s.station ∧ (s.takeNakFrame seq).arb = s.arb ∧
    (s.takeNakFrame seq).notes = s.notes ∧ (s.takeNakFrame seq).triggers = s.triggers ∧
    (s.takeNakFrame seq).loader = s.loader ∧ (s.takeNakFrame seq).writer = s.writer ∧
    (s.takeNakFrame seq).copier = s.copier ∧ (s.takeNakFrame seq).host = s.host ∧ (s.takeNakFrame seq).mem = s.mem ∧
    (s.takeNakFrame seq).pending = s.pending := by
  unfold State.takeNakFrame; (repeat' split) <;> simp

@[simp] theorem State.takeAbort_frame (s : State) (reason : AbortReason) :
    (s.takeAbort reason).station = s.station ∧ (s.takeAbort reason).triggers = s.triggers ∧
    (s.takeAbort reason).loader = s.loader ∧ (s.takeAbort reason).writer = s.writer ∧
    (s.takeAbort reason).copier = s.copier ∧ (s.takeAbort reason).mem = s.mem ∧
    (s.takeAbort reason).pending = s.pending := by
  unfold State.takeAbort; (repeat' split) <;> simp

@[simp] theorem State.takeCallAgain_frame (s : State) (body : Body) :
    (s.takeCallAgain body).station = s.station ∧ (s.takeCallAgain body).arb = s.arb ∧
    (s.takeCallAgain body).engine = s.engine ∧ (s.takeCallAgain body).sched = s.sched ∧
    (s.takeCallAgain body).service = s.service ∧ (s.takeCallAgain body).notes = s.notes ∧
    (s.takeCallAgain body).triggers = s.triggers ∧ (s.takeCallAgain body).port = s.port ∧
    (s.takeCallAgain body).loader = s.loader ∧ (s.takeCallAgain body).mover = s.mover ∧
    (s.takeCallAgain body).writer = s.writer ∧ (s.takeCallAgain body).copier = s.copier ∧
    (s.takeCallAgain body).host = s.host ∧ (s.takeCallAgain body).mem = s.mem ∧
    (s.takeCallAgain body).pending = s.pending := by
  unfold State.takeCallAgain; (repeat' split) <;> simp

@[simp] theorem State.within_station (s : State) (h : FrameHead) (f : State → State) (hf : ∀ s, (f s).station =
    s.station) :
    (s.within h f).station = s.station := by
  unfold State.within; split <;> simp [hf]

@[simp] theorem State.hear_triggers (s : State) (h : FrameHead) (f : State → State) (hf : ∀ s, (f s).triggers =
    s.triggers) :
    (s.hear h f).triggers = s.triggers := by
  unfold State.hear; (repeat' split) <;> simp [hf]

@[simp] theorem State.within_triggers (s : State) (h : FrameHead) (f : State → State) (hf : ∀ s, (f s).triggers =
    s.triggers) :
    (s.within h f).triggers = s.triggers := by
  unfold State.within; split <;> simp [hf]

@[simp] theorem State.hear_loader (s : State) (h : FrameHead) (f : State → State) (hf : ∀ s, (f s).loader =
    s.loader) :
    (s.hear h f).loader = s.loader := by
  unfold State.hear; (repeat' split) <;> simp [hf]

@[simp] theorem State.within_loader (s : State) (h : FrameHead) (f : State → State) (hf : ∀ s, (f s).loader =
    s.loader) :
    (s.within h f).loader = s.loader := by
  unfold State.within; split <;> simp [hf]

@[simp] theorem State.hear_writer (s : State) (h : FrameHead) (f : State → State) (hf : ∀ s, (f s).writer =
    s.writer) :
    (s.hear h f).writer = s.writer := by
  unfold State.hear; (repeat' split) <;> simp [hf]

@[simp] theorem State.within_writer (s : State) (h : FrameHead) (f : State → State) (hf : ∀ s, (f s).writer =
    s.writer) :
    (s.within h f).writer = s.writer := by
  unfold State.within; split <;> simp [hf]

@[simp] theorem State.hear_copier (s : State) (h : FrameHead) (f : State → State) (hf : ∀ s, (f s).copier =
    s.copier) :
    (s.hear h f).copier = s.copier := by
  unfold State.hear; (repeat' split) <;> simp [hf]

@[simp] theorem State.within_copier (s : State) (h : FrameHead) (f : State → State) (hf : ∀ s, (f s).copier =
    s.copier) :
    (s.within h f).copier = s.copier := by
  unfold State.within; split <;> simp [hf]

@[simp] theorem State.hear_mem (s : State) (h : FrameHead) (f : State → State) (hf : ∀ s, (f s).mem = s.mem) :
    (s.hear h f).mem = s.mem := by
  unfold State.hear; (repeat' split) <;> simp [hf]

@[simp] theorem State.within_mem (s : State) (h : FrameHead) (f : State → State) (hf : ∀ s, (f s).mem = s.mem) :
    (s.within h f).mem = s.mem := by
  unfold State.within; split <;> simp [hf]

@[simp] theorem State.hear_pending (s : State) (h : FrameHead) (f : State → State) (hf : ∀ s, (f s).pending =
    s.pending) :
    (s.hear h f).pending = s.pending := by
  unfold State.hear; (repeat' split) <;> simp [hf]

@[simp] theorem State.within_pending (s : State) (h : FrameHead) (f : State → State) (hf : ∀ s, (f s).pending =
    s.pending) :
    (s.within h f).pending = s.pending := by
  unfold State.within; split <;> simp [hf]

@[simp] theorem State.takeCall_frame (s : State) (h : FrameHead) (body : Body) :
    (s.takeCall h body).station = s.station ∧ (s.takeCall h body).triggers = s.triggers ∧
    (s.takeCall h body).loader = s.loader ∧ (s.takeCall h body).writer = s.writer ∧
    (s.takeCall h body).copier = s.copier ∧ (s.takeCall h body).mem = s.mem ∧
    (s.takeCall h body).pending = s.pending := by
  unfold State.takeCall; (repeat' split) <;> simp

@[simp] theorem State.answerRollCall_frame (s : State) :
    (s.answerRollCall).station = s.station ∧ (s.answerRollCall).arb = s.arb ∧ (s.answerRollCall).engine = s.engine ∧
    (s.answerRollCall).sched = s.sched ∧ (s.answerRollCall).service = s.service ∧
    (s.answerRollCall).notes = s.notes ∧ (s.answerRollCall).triggers = s.triggers ∧
    (s.answerRollCall).port = s.port ∧ (s.answerRollCall).loader = s.loader ∧ (s.answerRollCall).mover = s.mover ∧
    (s.answerRollCall).writer = s.writer ∧ (s.answerRollCall).copier = s.copier ∧ (s.answerRollCall).host = s.host ∧
    (s.answerRollCall).mem = s.mem ∧ (s.answerRollCall).pending = s.pending := by
  unfold State.answerRollCall; (repeat' split) <;> simp

@[simp] theorem State.hearRollCall_frame (s : State) (h : FrameHead) :
    (s.hearRollCall h).engine = s.engine ∧ (s.hearRollCall h).sched = s.sched ∧ (s.hearRollCall h).notes = s.notes ∧
    (s.hearRollCall h).triggers = s.triggers ∧ (s.hearRollCall h).port = s.port ∧
    (s.hearRollCall h).loader = s.loader ∧ (s.hearRollCall h).mover = s.mover ∧
    (s.hearRollCall h).writer = s.writer ∧ (s.hearRollCall h).copier = s.copier ∧ (s.hearRollCall h).mem = s.mem ∧
    (s.hearRollCall h).pending = s.pending := by
  unfold State.hearRollCall; (repeat' split) <;> simp

@[simp] theorem State.hearPresent_frame (s : State) (h : FrameHead) :
    (s.hearPresent h).engine = s.engine ∧ (s.hearPresent h).sched = s.sched ∧ (s.hearPresent h).notes = s.notes ∧
    (s.hearPresent h).triggers = s.triggers ∧ (s.hearPresent h).port = s.port ∧
    (s.hearPresent h).loader = s.loader ∧ (s.hearPresent h).mover = s.mover ∧ (s.hearPresent h).writer = s.writer ∧
    (s.hearPresent h).copier = s.copier ∧ (s.hearPresent h).mem = s.mem ∧
    (s.hearPresent h).pending = s.pending := by
  unfold State.hearPresent; (repeat' split) <;> simp

@[simp] theorem State.takeFrame_frame (s : State) (f : Frame) :
    (s.takeFrame f).triggers = s.triggers ∧ (s.takeFrame f).loader = s.loader ∧ (s.takeFrame f).writer = s.writer ∧
    (s.takeFrame f).copier = s.copier ∧ (s.takeFrame f).mem = s.mem ∧ (s.takeFrame f).pending = s.pending := by
  unfold State.takeFrame; (repeat' split) <;> simp

@[simp] theorem State.takeReceived_frame (s : State) :
    (s.takeReceived).triggers = s.triggers ∧ (s.takeReceived).loader = s.loader ∧
    (s.takeReceived).writer = s.writer ∧ (s.takeReceived).copier = s.copier ∧ (s.takeReceived).mem = s.mem ∧
    (s.takeReceived).pending = s.pending := by
  unfold State.takeReceived; (repeat' split) <;> simp

@[simp] theorem State.receiveFrame_frame (s : State) (f : Frame) :
    (s.receiveFrame f).triggers = s.triggers ∧ (s.receiveFrame f).loader = s.loader ∧
    (s.receiveFrame f).writer = s.writer ∧ (s.receiveFrame f).copier = s.copier ∧ (s.receiveFrame f).mem = s.mem ∧
    (s.receiveFrame f).pending = s.pending := by
  unfold State.receiveFrame; (repeat' split) <;> simp

@[simp] theorem State.callOutGood_frame (s : State) :
    (s.callOutGood).station = s.station ∧ (s.callOutGood).service = s.service ∧
    (s.callOutGood).triggers = s.triggers ∧ (s.callOutGood).loader = s.loader ∧ (s.callOutGood).writer = s.writer ∧
    (s.callOutGood).copier = s.copier ∧ (s.callOutGood).host = s.host ∧ (s.callOutGood).mem = s.mem ∧
    (s.callOutGood).pending = s.pending := by
  unfold State.callOutGood; dsimp only; (repeat' split) <;> simp

@[simp] theorem State.callLost_frame (s : State) :
    (s.callLost).station = s.station ∧ (s.callLost).service = s.service ∧ (s.callLost).triggers = s.triggers ∧
    (s.callLost).loader = s.loader ∧ (s.callLost).writer = s.writer ∧ (s.callLost).copier = s.copier ∧
    (s.callLost).host = s.host ∧ (s.callLost).mem = s.mem ∧ (s.callLost).pending = s.pending := by
  unfold State.callLost; dsimp only; (repeat' split) <;> simp

@[simp] theorem State.startCloseTimer_frame (s : State) :
    (s.startCloseTimer).station = s.station ∧ (s.startCloseTimer).bus = s.bus ∧ (s.startCloseTimer).arb = s.arb ∧
    (s.startCloseTimer).sched = s.sched ∧ (s.startCloseTimer).service = s.service ∧
    (s.startCloseTimer).notes = s.notes ∧ (s.startCloseTimer).triggers = s.triggers ∧
    (s.startCloseTimer).port = s.port ∧ (s.startCloseTimer).loader = s.loader ∧
    (s.startCloseTimer).mover = s.mover ∧ (s.startCloseTimer).writer = s.writer ∧
    (s.startCloseTimer).copier = s.copier ∧ (s.startCloseTimer).host = s.host ∧ (s.startCloseTimer).mem = s.mem ∧
    (s.startCloseTimer).pending = s.pending := by
  unfold State.startCloseTimer; (repeat' split) <;> simp

@[simp] theorem State.withdrawSent_frame (s : State) (good : Bool) :
    (s.withdrawSent good).station = s.station ∧ (s.withdrawSent good).service = s.service ∧
    (s.withdrawSent good).triggers = s.triggers ∧ (s.withdrawSent good).loader = s.loader ∧
    (s.withdrawSent good).writer = s.writer ∧ (s.withdrawSent good).copier = s.copier ∧
    (s.withdrawSent good).host = s.host ∧ (s.withdrawSent good).mem = s.mem ∧
    (s.withdrawSent good).pending = s.pending := by
  unfold State.withdrawSent; (repeat' split) <;> simp

@[simp] theorem State.endDriven_frame (s : State) :
    (s.endDriven).station = s.station ∧ (s.endDriven).sched = s.sched ∧ (s.endDriven).service = s.service ∧
    (s.endDriven).triggers = s.triggers ∧ (s.endDriven).loader = s.loader ∧ (s.endDriven).writer = s.writer ∧
    (s.endDriven).copier = s.copier ∧ (s.endDriven).host = s.host ∧ (s.endDriven).mem = s.mem ∧
    (s.endDriven).pending = s.pending := by
  unfold State.endDriven; (repeat' split) <;> simp

@[simp] theorem State.abortDriven_frame (s : State) :
    (s.abortDriven).station = s.station ∧ (s.abortDriven).triggers = s.triggers ∧
    (s.abortDriven).loader = s.loader ∧ (s.abortDriven).writer = s.writer ∧ (s.abortDriven).copier = s.copier ∧
    (s.abortDriven).mem = s.mem ∧ (s.abortDriven).pending = s.pending := by
  unfold State.abortDriven; (repeat' split) <;> simp

@[simp] theorem State.closingDriven_frame (s : State) :
    (s.closingDriven).station = s.station ∧ (s.closingDriven).bus = s.bus ∧ (s.closingDriven).arb = s.arb ∧
    (s.closingDriven).sched = s.sched ∧ (s.closingDriven).service = s.service ∧ (s.closingDriven).notes = s.notes ∧
    (s.closingDriven).triggers = s.triggers ∧ (s.closingDriven).port = s.port ∧
    (s.closingDriven).loader = s.loader ∧ (s.closingDriven).mover = s.mover ∧ (s.closingDriven).writer = s.writer ∧
    (s.closingDriven).copier = s.copier ∧ (s.closingDriven).host = s.host ∧ (s.closingDriven).mem = s.mem ∧
    (s.closingDriven).pending = s.pending := by
  unfold State.closingDriven; (repeat' split) <;> simp

@[simp] theorem State.engineFrameEnd_frame (s : State) (f : Frame) (good : Bool) :
    (s.engineFrameEnd f good).station = s.station ∧ (s.engineFrameEnd f good).triggers = s.triggers ∧
    (s.engineFrameEnd f good).loader = s.loader ∧ (s.engineFrameEnd f good).writer = s.writer ∧
    (s.engineFrameEnd f good).copier = s.copier ∧ (s.engineFrameEnd f good).mem = s.mem ∧
    (s.engineFrameEnd f good).pending = s.pending := by
  unfold State.engineFrameEnd; cases f.body <;> dsimp only <;> (repeat' split) <;> simp

@[simp] theorem State.frameEnd_frame (s : State) (f : Frame) (good : Bool) :
    (s.frameEnd f good).triggers = s.triggers ∧ (s.frameEnd f good).loader = s.loader ∧
    (s.frameEnd f good).writer = s.writer ∧ (s.frameEnd f good).copier = s.copier ∧
    (s.frameEnd f good).mem = s.mem ∧ (s.frameEnd f good).pending = s.pending := by
  unfold State.frameEnd; cases f.body <;> dsimp only <;> (repeat' split) <;> simp

@[simp] theorem State.sentGood_frame (s : State) (f : Frame) :
    (s.sentGood f).triggers = s.triggers ∧ (s.sentGood f).loader = s.loader ∧ (s.sentGood f).writer = s.writer ∧
    (s.sentGood f).copier = s.copier ∧ (s.sentGood f).mem = s.mem ∧ (s.sentGood f).pending = s.pending := by
  unfold State.sentGood; dsimp only; (repeat' split) <;> simp

@[simp] theorem State.runTest_frame (s : State) :
    (s.runTest).triggers = s.triggers ∧ (s.runTest).writer = s.writer ∧ (s.runTest).copier = s.copier ∧
    (s.runTest).mem = s.mem ∧ (s.runTest).pending = s.pending := by
  unfold State.runTest; (repeat' split) <;> simp

@[simp] theorem State.sentLost_frame (s : State) (f : Frame) :
    (s.sentLost f).triggers = s.triggers ∧ (s.sentLost f).writer = s.writer ∧ (s.sentLost f).copier = s.copier ∧
    (s.sentLost f).mem = s.mem ∧ (s.sentLost f).pending = s.pending := by
  unfold State.sentLost; dsimp only; (repeat' split) <;> simp

@[simp] theorem State.sendAbortFrame_frame (s : State) :
    (s.sendAbortFrame).station = s.station ∧ (s.sendAbortFrame).arb = s.arb ∧ (s.sendAbortFrame).sched = s.sched ∧
    (s.sendAbortFrame).service = s.service ∧ (s.sendAbortFrame).notes = s.notes ∧
    (s.sendAbortFrame).triggers = s.triggers ∧ (s.sendAbortFrame).port = s.port ∧
    (s.sendAbortFrame).loader = s.loader ∧ (s.sendAbortFrame).mover = s.mover ∧
    (s.sendAbortFrame).writer = s.writer ∧ (s.sendAbortFrame).copier = s.copier ∧ (s.sendAbortFrame).host = s.host ∧
    (s.sendAbortFrame).mem = s.mem ∧ (s.sendAbortFrame).pending = s.pending := by
  unfold State.sendAbortFrame; (repeat' split) <;> simp

@[simp] theorem State.store_frame (s : State) (a : Nat) (bytes : List Byte) :
    (s.store a bytes).station = s.station ∧ (s.store a bytes).bus = s.bus ∧ (s.store a bytes).arb = s.arb ∧
    (s.store a bytes).engine = s.engine ∧ (s.store a bytes).sched = s.sched ∧
    (s.store a bytes).service = s.service ∧ (s.store a bytes).notes = s.notes ∧
    (s.store a bytes).triggers = s.triggers ∧ (s.store a bytes).port = s.port ∧
    (s.store a bytes).loader = s.loader ∧ (s.store a bytes).mover = s.mover ∧ (s.store a bytes).writer = s.writer ∧
    (s.store a bytes).copier = s.copier ∧ (s.store a bytes).host = s.host ∧
    (s.store a bytes).pending = s.pending := by
  unfold State.store; (repeat' split) <;> simp

@[simp] theorem State.applyTransaction_frame (s : State) (t : Transaction) :
    (s.applyTransaction t).station = s.station ∧ (s.applyTransaction t).bus = s.bus ∧
    (s.applyTransaction t).arb = s.arb ∧ (s.applyTransaction t).engine = s.engine ∧
    (s.applyTransaction t).sched = s.sched ∧ (s.applyTransaction t).service = s.service ∧
    (s.applyTransaction t).notes = s.notes ∧ (s.applyTransaction t).triggers = s.triggers ∧
    (s.applyTransaction t).port = s.port ∧ (s.applyTransaction t).loader = s.loader ∧
    (s.applyTransaction t).mover = s.mover ∧ (s.applyTransaction t).writer = s.writer ∧
    (s.applyTransaction t).copier = s.copier ∧ (s.applyTransaction t).host = s.host ∧
    (s.applyTransaction t).pending = s.pending := by
  unfold State.applyTransaction; (repeat' split) <;> simp

@[simp] theorem State.grant_frame (s : State) :
    (s.grant).station = s.station ∧ (s.grant).bus = s.bus ∧ (s.grant).arb = s.arb ∧ (s.grant).engine = s.engine ∧
    (s.grant).sched = s.sched ∧ (s.grant).service = s.service ∧ (s.grant).notes = s.notes ∧
    (s.grant).triggers = s.triggers ∧ (s.grant).loader = s.loader ∧ (s.grant).mover = s.mover ∧
    (s.grant).writer = s.writer ∧ (s.grant).copier = s.copier ∧ (s.grant).host = s.host ∧ (s.grant).mem = s.mem ∧
    (s.grant).pending = s.pending := by
  unfold State.grant; (repeat' split) <;> simp

@[simp] theorem State.requesterGoesOn_frame (s : State) (g : Granted) (data : List Byte) :
    (s.requesterGoesOn g data).bus = s.bus ∧ (s.requesterGoesOn g data).arb = s.arb ∧
    (s.requesterGoesOn g data).triggers = s.triggers ∧ (s.requesterGoesOn g data).mem = s.mem ∧
    (s.requesterGoesOn g data).pending = s.pending := by
  unfold State.requesterGoesOn; (repeat' split) <;> simp

@[simp] theorem State.requesterFaults_frame (s : State) (g : Granted) :
    (s.requesterFaults g).bus = s.bus ∧ (s.requesterFaults g).arb = s.arb ∧
    (s.requesterFaults g).service = s.service ∧ (s.requesterFaults g).triggers = s.triggers ∧
    (s.requesterFaults g).mem = s.mem ∧ (s.requesterFaults g).pending = s.pending := by
  unfold State.requesterFaults; (repeat' split) <;> simp

@[simp] theorem State.discardedEnds_frame (s : State) (g : Granted) :
    (s.discardedEnds g).station = s.station ∧ (s.discardedEnds g).bus = s.bus ∧ (s.discardedEnds g).arb = s.arb ∧
    (s.discardedEnds g).sched = s.sched ∧ (s.discardedEnds g).service = s.service ∧
    (s.discardedEnds g).notes = s.notes ∧ (s.discardedEnds g).triggers = s.triggers ∧
    (s.discardedEnds g).loader = s.loader ∧ (s.discardedEnds g).writer = s.writer ∧
    (s.discardedEnds g).copier = s.copier ∧ (s.discardedEnds g).host = s.host ∧ (s.discardedEnds g).mem = s.mem ∧
    (s.discardedEnds g).pending = s.pending := by
  unfold State.discardedEnds; (repeat' split) <;> simp

@[simp] theorem State.transactionEnds_frame (s : State) (data : List Byte) :
    (s.transactionEnds data).triggers = s.triggers ∧ (s.transactionEnds data).pending = s.pending := by
  unfold State.transactionEnds; dsimp only; (repeat' split) <;> simp

@[simp] theorem State.transactionFails_frame (s : State) :
    (s.transactionFails).triggers = s.triggers ∧ (s.transactionFails).mem = s.mem ∧
    (s.transactionFails).pending = s.pending := by
  unfold State.transactionFails; dsimp only; (repeat' split) <;> simp

@[simp] theorem State.takeCommand_triggers (s : State) (f : Word → State → State) (hf : ∀ a s, (f a s).triggers =
    s.triggers) :
    (s.takeCommand f).triggers = s.triggers := by
  unfold State.takeCommand; split <;> simp [hf]

@[simp] theorem State.takeCommand_mem (s : State) (f : Word → State → State) (hf : ∀ a s, (f a s).mem = s.mem) :
    (s.takeCommand f).mem = s.mem := by
  unfold State.takeCommand; split <;> simp [hf]

@[simp] theorem State.takeCommand_pending (s : State) (f : Word → State → State) (hf : ∀ a s, (f a s).pending =
    s.pending) :
    (s.takeCommand f).pending = s.pending := by
  unfold State.takeCommand; split <;> simp [hf]

@[simp] theorem State.doJoin_frame (a : Word) (s : State) :
    (State.doJoin a s).bus = s.bus ∧ (State.doJoin a s).arb = s.arb ∧ (State.doJoin a s).engine = s.engine ∧
    (State.doJoin a s).service = s.service ∧ (State.doJoin a s).notes = s.notes ∧
    (State.doJoin a s).triggers = s.triggers ∧ (State.doJoin a s).mover = s.mover ∧
    (State.doJoin a s).writer = s.writer ∧ (State.doJoin a s).copier = s.copier ∧ (State.doJoin a s).mem = s.mem ∧
    (State.doJoin a s).pending = s.pending := by
  unfold State.doJoin; (repeat' split) <;> simp

@[simp] theorem State.doLeave_frame (s : State) :
    (s.doLeave).triggers = s.triggers ∧ (s.doLeave).loader = s.loader ∧ (s.doLeave).writer = s.writer ∧
    (s.doLeave).copier = s.copier ∧ (s.doLeave).mem = s.mem ∧ (s.doLeave).pending = s.pending := by
  unfold State.doLeave; dsimp only; (repeat' split) <;> simp

@[simp] theorem State.doPeerReset_frame (a : Word) (s : State) :
    (State.doPeerReset a s).bus = s.bus ∧ (State.doPeerReset a s).arb = s.arb ∧
    (State.doPeerReset a s).engine = s.engine ∧ (State.doPeerReset a s).sched = s.sched ∧
    (State.doPeerReset a s).service = s.service ∧ (State.doPeerReset a s).notes = s.notes ∧
    (State.doPeerReset a s).triggers = s.triggers ∧ (State.doPeerReset a s).port = s.port ∧
    (State.doPeerReset a s).loader = s.loader ∧ (State.doPeerReset a s).mover = s.mover ∧
    (State.doPeerReset a s).writer = s.writer ∧ (State.doPeerReset a s).copier = s.copier ∧
    (State.doPeerReset a s).mem = s.mem ∧ (State.doPeerReset a s).pending = s.pending := by
  unfold State.doPeerReset; (repeat' split) <;> simp

@[simp] theorem State.doPost_frame (a : Word) (s : State) :
    (State.doPost a s).bus = s.bus ∧ (State.doPost a s).arb = s.arb ∧ (State.doPost a s).engine = s.engine ∧
    (State.doPost a s).service = s.service ∧ (State.doPost a s).notes = s.notes ∧
    (State.doPost a s).triggers = s.triggers ∧ (State.doPost a s).mover = s.mover ∧
    (State.doPost a s).writer = s.writer ∧ (State.doPost a s).copier = s.copier ∧ (State.doPost a s).mem = s.mem ∧
    (State.doPost a s).pending = s.pending := by
  unfold State.doPost; (repeat' split) <;> simp

@[simp] theorem State.doCancel_frame (a : Word) (s : State) :
    (State.doCancel a s).triggers = s.triggers ∧ (State.doCancel a s).loader = s.loader ∧
    (State.doCancel a s).writer = s.writer ∧ (State.doCancel a s).copier = s.copier ∧
    (State.doCancel a s).mem = s.mem ∧ (State.doCancel a s).pending = s.pending := by
  unfold State.doCancel; dsimp only; (repeat' split) <;> simp

@[simp] theorem State.doStopStanding_frame (a : Word) (s : State) :
    (State.doStopStanding a s).station = s.station ∧ (State.doStopStanding a s).bus = s.bus ∧
    (State.doStopStanding a s).arb = s.arb ∧ (State.doStopStanding a s).engine = s.engine ∧
    (State.doStopStanding a s).service = s.service ∧ (State.doStopStanding a s).notes = s.notes ∧
    (State.doStopStanding a s).triggers = s.triggers ∧ (State.doStopStanding a s).port = s.port ∧
    (State.doStopStanding a s).loader = s.loader ∧ (State.doStopStanding a s).mover = s.mover ∧
    (State.doStopStanding a s).writer = s.writer ∧ (State.doStopStanding a s).copier = s.copier ∧
    (State.doStopStanding a s).mem = s.mem ∧ (State.doStopStanding a s).pending = s.pending := by
  unfold State.doStopStanding; (repeat' split) <;> simp

@[simp] theorem State.holdReaches_frame (s : State) (w : WindowId) :
    (s.holdReaches w).station = s.station ∧ (s.holdReaches w).arb = s.arb ∧ (s.holdReaches w).sched = s.sched ∧
    (s.holdReaches w).service = s.service ∧ (s.holdReaches w).notes = s.notes ∧
    (s.holdReaches w).triggers = s.triggers ∧ (s.holdReaches w).loader = s.loader ∧
    (s.holdReaches w).writer = s.writer ∧ (s.holdReaches w).copier = s.copier ∧ (s.holdReaches w).host = s.host ∧
    (s.holdReaches w).mem = s.mem ∧ (s.holdReaches w).pending = s.pending := by
  unfold State.holdReaches; (repeat' split) <;> simp

@[simp] theorem State.doHold_frame (a : Word) (s : State) :
    (State.doHold a s).station = s.station ∧ (State.doHold a s).arb = s.arb ∧ (State.doHold a s).sched = s.sched ∧
    (State.doHold a s).notes = s.notes ∧ (State.doHold a s).triggers = s.triggers ∧
    (State.doHold a s).loader = s.loader ∧ (State.doHold a s).writer = s.writer ∧
    (State.doHold a s).copier = s.copier ∧ (State.doHold a s).mem = s.mem ∧
    (State.doHold a s).pending = s.pending := by
  unfold State.doHold; (repeat' split) <;> simp

@[simp] theorem State.doRelease_frame (a : Word) (s : State) :
    (State.doRelease a s).station = s.station ∧ (State.doRelease a s).bus = s.bus ∧
    (State.doRelease a s).arb = s.arb ∧ (State.doRelease a s).sched = s.sched ∧
    (State.doRelease a s).notes = s.notes ∧ (State.doRelease a s).triggers = s.triggers ∧
    (State.doRelease a s).loader = s.loader ∧ (State.doRelease a s).writer = s.writer ∧
    (State.doRelease a s).copier = s.copier ∧ (State.doRelease a s).mem = s.mem ∧
    (State.doRelease a s).pending = s.pending := by
  unfold State.doRelease; (repeat' split) <;> simp

@[simp] theorem State.doTakeNote_frame (a : Word) (s : State) :
    (State.doTakeNote a s).station = s.station ∧ (State.doTakeNote a s).bus = s.bus ∧
    (State.doTakeNote a s).arb = s.arb ∧ (State.doTakeNote a s).engine = s.engine ∧
    (State.doTakeNote a s).sched = s.sched ∧ (State.doTakeNote a s).service = s.service ∧
    (State.doTakeNote a s).triggers = s.triggers ∧ (State.doTakeNote a s).loader = s.loader ∧
    (State.doTakeNote a s).mover = s.mover ∧ (State.doTakeNote a s).writer = s.writer ∧
    (State.doTakeNote a s).mem = s.mem ∧ (State.doTakeNote a s).pending = s.pending := by
  unfold State.doTakeNote; (repeat' split) <;> simp

@[simp] theorem State.doBusReset_frame (s : State) :
    (s.doBusReset).station = s.station ∧ (s.doBusReset).arb = s.arb ∧ (s.doBusReset).engine = s.engine ∧
    (s.doBusReset).sched = s.sched ∧ (s.doBusReset).service = s.service ∧ (s.doBusReset).notes = s.notes ∧
    (s.doBusReset).triggers = s.triggers ∧ (s.doBusReset).port = s.port ∧ (s.doBusReset).loader = s.loader ∧
    (s.doBusReset).mover = s.mover ∧ (s.doBusReset).writer = s.writer ∧ (s.doBusReset).copier = s.copier ∧
    (s.doBusReset).mem = s.mem ∧ (s.doBusReset).pending = s.pending := by
  unfold State.doBusReset; (repeat' split) <;> simp

@[simp] theorem State.doRingRestart_frame (s : State) :
    (s.doRingRestart).station = s.station ∧ (s.doRingRestart).bus = s.bus ∧ (s.doRingRestart).arb = s.arb ∧
    (s.doRingRestart).engine = s.engine ∧ (s.doRingRestart).sched = s.sched ∧
    (s.doRingRestart).service = s.service ∧ (s.doRingRestart).notes = s.notes ∧
    (s.doRingRestart).triggers = s.triggers ∧ (s.doRingRestart).loader = s.loader ∧
    (s.doRingRestart).mover = s.mover ∧ (s.doRingRestart).copier = s.copier ∧ (s.doRingRestart).mem = s.mem ∧
    (s.doRingRestart).pending = s.pending := by
  unfold State.doRingRestart; (repeat' split) <;> simp

@[simp] theorem State.commandWrite_frame (s : State) (code : Byte) :
    (s.commandWrite code).triggers = s.triggers ∧ (s.commandWrite code).mem = s.mem ∧
    (s.commandWrite code).pending = s.pending := by
  unfold State.commandWrite; (repeat' split) <;> simp

@[simp] theorem State.writeConsumer_frame (s : State) (value : Word) :
    (s.writeConsumer value).station = s.station ∧ (s.writeConsumer value).bus = s.bus ∧
    (s.writeConsumer value).arb = s.arb ∧ (s.writeConsumer value).engine = s.engine ∧
    (s.writeConsumer value).sched = s.sched ∧ (s.writeConsumer value).service = s.service ∧
    (s.writeConsumer value).notes = s.notes ∧ (s.writeConsumer value).triggers = s.triggers ∧
    (s.writeConsumer value).port = s.port ∧ (s.writeConsumer value).loader = s.loader ∧
    (s.writeConsumer value).mover = s.mover ∧ (s.writeConsumer value).copier = s.copier ∧
    (s.writeConsumer value).mem = s.mem ∧ (s.writeConsumer value).pending = s.pending := by
  unfold State.writeConsumer; dsimp only; (repeat' split) <;> simp

@[simp] theorem State.writeEvent_frame (s : State) (value : Word) :
    (s.writeEvent value).station = s.station ∧ (s.writeEvent value).bus = s.bus ∧ (s.writeEvent value).arb = s.arb ∧
    (s.writeEvent value).engine = s.engine ∧ (s.writeEvent value).sched = s.sched ∧
    (s.writeEvent value).service = s.service ∧ (s.writeEvent value).notes = s.notes ∧
    (s.writeEvent value).triggers = s.triggers ∧ (s.writeEvent value).port = s.port ∧
    (s.writeEvent value).loader = s.loader ∧ (s.writeEvent value).mover = s.mover ∧
    (s.writeEvent value).writer = s.writer ∧ (s.writeEvent value).copier = s.copier ∧
    (s.writeEvent value).mem = s.mem ∧ (s.writeEvent value).pending = s.pending := by
  unfold State.writeEvent; (repeat' split) <;> simp

@[simp] theorem State.writeEnable_frame (s : State) (value : Word) :
    (s.writeEnable value).station = s.station ∧ (s.writeEnable value).bus = s.bus ∧
    (s.writeEnable value).arb = s.arb ∧ (s.writeEnable value).engine = s.engine ∧
    (s.writeEnable value).sched = s.sched ∧ (s.writeEnable value).service = s.service ∧
    (s.writeEnable value).notes = s.notes ∧ (s.writeEnable value).triggers = s.triggers ∧
    (s.writeEnable value).port = s.port ∧ (s.writeEnable value).loader = s.loader ∧
    (s.writeEnable value).mover = s.mover ∧ (s.writeEnable value).writer = s.writer ∧
    (s.writeEnable value).copier = s.copier ∧ (s.writeEnable value).mem = s.mem ∧
    (s.writeEnable value).pending = s.pending := by
  unfold State.writeEnable; (repeat' split) <;> simp

@[simp] theorem State.writeArgument_frame (s : State) (value : Word) :
    (s.writeArgument value).station = s.station ∧ (s.writeArgument value).bus = s.bus ∧
    (s.writeArgument value).arb = s.arb ∧ (s.writeArgument value).engine = s.engine ∧
    (s.writeArgument value).sched = s.sched ∧ (s.writeArgument value).service = s.service ∧
    (s.writeArgument value).notes = s.notes ∧ (s.writeArgument value).triggers = s.triggers ∧
    (s.writeArgument value).port = s.port ∧ (s.writeArgument value).loader = s.loader ∧
    (s.writeArgument value).mover = s.mover ∧ (s.writeArgument value).writer = s.writer ∧
    (s.writeArgument value).copier = s.copier ∧ (s.writeArgument value).mem = s.mem ∧
    (s.writeArgument value).pending = s.pending := by
  unfold State.writeArgument; (repeat' split) <;> simp

@[simp] theorem State.setLevel_frame (s : State) (l : TriggerLine) (high : Bool) :
    (s.setLevel l high).station = s.station ∧ (s.setLevel l high).bus = s.bus ∧ (s.setLevel l high).arb = s.arb ∧
    (s.setLevel l high).engine = s.engine ∧ (s.setLevel l high).sched = s.sched ∧
    (s.setLevel l high).service = s.service ∧ (s.setLevel l high).notes = s.notes ∧
    (s.setLevel l high).port = s.port ∧ (s.setLevel l high).loader = s.loader ∧
    (s.setLevel l high).mover = s.mover ∧ (s.setLevel l high).writer = s.writer ∧
    (s.setLevel l high).copier = s.copier ∧ (s.setLevel l high).host = s.host ∧ (s.setLevel l high).mem = s.mem ∧
    (s.setLevel l high).pending = s.pending := by
  unfold State.setLevel; dsimp only; (repeat' split) <;> simp

@[simp] theorem State.edge_frame (s : State) (l : TriggerLine) :
    (s.edge l).station = s.station ∧ (s.edge l).bus = s.bus ∧ (s.edge l).arb = s.arb ∧
    (s.edge l).engine = s.engine ∧ (s.edge l).service = s.service ∧ (s.edge l).notes = s.notes ∧
    (s.edge l).triggers = s.triggers ∧ (s.edge l).port = s.port ∧ (s.edge l).loader = s.loader ∧
    (s.edge l).mover = s.mover ∧ (s.edge l).writer = s.writer ∧ (s.edge l).copier = s.copier ∧
    (s.edge l).mem = s.mem ∧ (s.edge l).pending = s.pending := by
  unfold State.edge; and_intros <;> simp [State.foldl_station, State.foldl_bus, State.foldl_arb, State.foldl_engine,
      State.foldl_sched, State.foldl_service, State.foldl_notes, State.foldl_triggers, State.foldl_port,
      State.foldl_loader, State.foldl_mover, State.foldl_writer, State.foldl_copier, State.foldl_host, State.foldl_mem,
      State.foldl_pending, apply_ite]

@[simp] theorem State.resetFalls_frame (s : State) :
    (s.resetFalls).station = s.station ∧ (s.resetFalls).arb = s.arb ∧ (s.resetFalls).engine = s.engine ∧
    (s.resetFalls).sched = s.sched ∧ (s.resetFalls).service = s.service ∧ (s.resetFalls).notes = s.notes ∧
    (s.resetFalls).triggers = s.triggers ∧ (s.resetFalls).port = s.port ∧ (s.resetFalls).loader = s.loader ∧
    (s.resetFalls).mover = s.mover ∧ (s.resetFalls).writer = s.writer ∧ (s.resetFalls).copier = s.copier ∧
    (s.resetFalls).host = s.host ∧ (s.resetFalls).mem = s.mem ∧ (s.resetFalls).pending = s.pending := by
  unfold State.resetFalls; dsimp only; (repeat' split) <;> simp

@[simp] theorem State.answerExpired_frame (s : State) :
    (s.answerExpired).triggers = s.triggers ∧ (s.answerExpired).loader = s.loader ∧
    (s.answerExpired).writer = s.writer ∧ (s.answerExpired).copier = s.copier ∧ (s.answerExpired).mem = s.mem ∧
    (s.answerExpired).pending = s.pending := by
  unfold State.answerExpired; dsimp only; (repeat' split) <;> simp

@[simp] theorem State.goOnline_frame (s : State) :
    (s.goOnline).engine = s.engine ∧ (s.goOnline).sched = s.sched ∧ (s.goOnline).service = s.service ∧
    (s.goOnline).notes = s.notes ∧ (s.goOnline).triggers = s.triggers ∧ (s.goOnline).port = s.port ∧
    (s.goOnline).loader = s.loader ∧ (s.goOnline).mover = s.mover ∧ (s.goOnline).writer = s.writer ∧
    (s.goOnline).copier = s.copier ∧ (s.goOnline).mem = s.mem ∧ (s.goOnline).pending = s.pending := by
  unfold State.goOnline; dsimp only; (repeat' split) <;> simp

end Sys2Proof.Machine
end

