-- ==== Sys2Proof/Laws/Memory.lean ====
section
/-! SUPPORT. Local memory: every write keeps the canonical form, a written byte reads back, every other byte reads as
before. -/

namespace Sys2Proof.Machine

theorem Memory.read_nil (a : Nat) : Memory.read [] a = none := rfl

/-- One byte written reads back; every other byte reads as before. -/
theorem Memory.read_writeByte (m : List Host.Cell) (a b : Nat) (v : Byte) (h : Memory.wf m = true) :
    Memory.read (Memory.writeByte m a v) b = if b = a then some v else Memory.read m b := by
  induction m with
  | nil => simp [Memory.writeByte, Memory.read]
  | cons c m ih =>
    obtain ⟨k, w⟩ := c
    have hm : Memory.wf m = true := by
      simp only [Memory.wf, List.map_cons, List.pairwise_cons, decide_eq_true_eq] at h ⊢
      exact h.2
    simp only [Memory.writeByte]
    split
    · simp [Memory.read]
    · split
      · rename_i e; subst e
        simp only [Memory.read]; split <;> rfl
      · simp only [Memory.read, ih hm]
        split <;> rename_i e
        · subst e; rename_i n; simp [Ne.symm n]
        · rfl

theorem Memory.keys_writeByte (m : List Host.Cell) (a : Nat) (v : Byte) (k : Nat)
    (h : k ∈ (Memory.writeByte m a v).map Prod.fst) : k = a ∨ k ∈ m.map Prod.fst := by
  induction m with
  | nil => simpa [Memory.writeByte] using h
  | cons c m ih =>
    obtain ⟨b, w⟩ := c
    simp only [Memory.writeByte] at h
    split at h
    · simpa using h
    · split at h
      · rename_i e; subst e; simp at h ⊢; tauto
      · simp only [List.map_cons, List.mem_cons] at h ⊢
        rcases h with h | h
        · exact .inr (.inl h)
        · rcases ih h with h | h
          · exact .inl h
          · exact .inr (.inr h)

/-- Writing a byte keeps the canonical form. -/
theorem Memory.wf_writeByte (m : List Host.Cell) (a : Nat) (v : Byte) (h : Memory.wf m = true) :
    Memory.wf (Memory.writeByte m a v) = true := by
  induction m with
  | nil => simp [Memory.writeByte, Memory.wf]
  | cons c m ih =>
    obtain ⟨b, w⟩ := c
    have h' := h
    simp only [Memory.wf, List.map_cons, List.pairwise_cons, decide_eq_true_eq] at h'
    have hm : Memory.wf m = true := by simpa [Memory.wf] using h'.2
    simp only [Memory.writeByte]
    split
    · rename_i lt
      simp only [Memory.wf, List.map_cons, List.pairwise_cons, decide_eq_true_eq]
      refine ⟨fun k hk => ?_, h'.1, h'.2⟩
      rcases List.mem_cons.1 hk with rfl | hk
      · exact lt
      · exact lt.trans (h'.1 k hk)
    · split
      · rename_i e; subst e; simpa [Memory.wf] using h'
      · rename_i nlt ne
        have ih := ih hm
        simp only [Memory.wf, List.map_cons, List.pairwise_cons, decide_eq_true_eq] at ih ⊢
        refine ⟨fun k hk => ?_, ih⟩
        rcases Memory.keys_writeByte m a v k hk with rfl | hk
        · omega
        · exact h'.1 k hk

/-- Writing bytes keeps the canonical form. -/
theorem Memory.wf_write (l : List Byte) : ∀ (m : List Host.Cell) (a : Nat), Memory.wf m = true →
    Memory.wf (Memory.write m a l) = true := by
  induction l with
  | nil => exact fun _ _ h => h
  | cons v l ih => exact fun m a h => ih _ _ (Memory.wf_writeByte m a v h)

/-- Bytes written read back at consecutive addresses; every other byte reads as before. -/
theorem Memory.read_write (l : List Byte) : ∀ (m : List Host.Cell) (a b : Nat), Memory.wf m = true →
    Memory.read (Memory.write m a l) b = if a ≤ b ∧ b < a + l.length then l[b - a]? else Memory.read m b := by
  induction l with
  | nil => intro m a b _; simp [Memory.write]
  | cons v l ih =>
    intro m a b h
    rw [Memory.write, ih _ _ _ (Memory.wf_writeByte m a v h), Memory.read_writeByte m a b v h]
    by_cases e : b = a
    · subst e; simp
    · by_cases g : a + 1 ≤ b ∧ b < a + 1 + l.length
      · have g' : a ≤ b ∧ b < a + (v :: l).length := by simp; omega
        have : b - a = (b - (a + 1)) + 1 := by omega
        rw [if_pos g, if_pos g', this, List.getElem?_cons_succ]
      · have g' : ¬ (a ≤ b ∧ b < a + (v :: l).length) := by simp; omega
        rw [if_neg g, if_neg g', if_neg e]

theorem Memory.wf_reset : Memory.wf State.reset.mem = true := by decide

end Sys2Proof.Machine
end

