-- ==== Sys2Proof/Laws/State.lean ====
section
/-! SUPPORT. One lemma for each block that a plain update of State writes, true by computation; the blocks it leaves are in
Laws/Frames.lean. -/

namespace Sys2Proof.Machine

/-! ### Host Interface -/

@[simp] theorem State.raise_host (e : Event) (s : State) :
    (s.raise e).host = { s.host with event := s.host.event ||| e.mask } := rfl

@[simp] theorem State.finish_host (s : State) (c : Byte) (r : ResultCode) (d : Nat) :
    (s.finish c r d).host =
      { s.host with result := ⟨r, c, BitVec.ofNat 16 d⟩, busy := false, event := s.host.event ||| Event.commandDone.mask } :=
  rfl

@[simp] theorem State.writeEvent_host (s : State) (v : Word) :
    (s.writeEvent v).host = { s.host with event := s.host.event &&& ~~~(v.setWidth 11) } := rfl

@[simp] theorem State.writeEnable_host (s : State) (v : Word) :
    (s.writeEnable v).host = { s.host with enable := v.setWidth 11 } := rfl

@[simp] theorem State.writeArgument_host (s : State) (v : Word) :
    (s.writeArgument v).host = { s.host with argument := v } := rfl

/-! ### Station Control -/

@[simp] theorem State.setPeer_station (s : State) (p : StationId) (x : Peer) :
    (s.setPeer p x).station = { s.station with peers := s.station.peers.set p x } := rfl

@[simp] theorem State.forgetPeers_station (s : State) :
    s.forgetPeers.station = { s.station with peers := Vector.replicate 16 Peer.unknown } := rfl

@[simp] theorem State.goOffline_station (s : State) (c : OfflineCause) :
    (s.goOffline c).station =
      { s.station with state := .offline, cause := c, rollcallDue := false, rollcallTimer := none,
                       peers := Vector.replicate 16 Peer.unknown } := rfl

@[simp] theorem State.goOffline_bus (s : State) (c : OfflineCause) : (s.goOffline c).bus = s.bus.cut := rfl

@[simp] theorem State.goOffline_arb (s : State) (c : OfflineCause) : (s.goOffline c).arb = .clear := rfl

@[simp] theorem State.goOffline_service (s : State) (c : OfflineCause) :
    (s.goOffline c).service = { s.service with windows := Vector.replicate 8 Window.disabled } := rfl

@[simp] theorem State.goOffline_host (s : State) (c : OfflineCause) :
    (s.goOffline c).host = { s.host with event := s.host.event ||| Event.stateChanged.mask } := rfl

/-! ### Bus Interface and Arbitration Unit -/

@[simp] theorem State.releaseLine_bus (s : State) : s.releaseLine.bus = { s.bus with holdsLine := false } := rfl

@[simp] theorem State.releaseLine_arb (s : State) : s.releaseLine.arb = { s.arb with abstaining := true } := rfl

@[simp] theorem State.enterFree_bus (s : State) : s.enterFree.bus = { s.bus with view := .free, restGapOpen := true } := rfl

@[simp] theorem State.drive_bus (s : State) (f : Frame) : (s.drive f).bus = { s.bus with driving := some f } := rfl

@[simp] theorem State.roundOpens_bus (s : State) :
    s.roundOpens.bus = { s.bus with view := .contending, restGapOpen := false } := rfl

@[simp] theorem State.roundOpens_arb (s : State) : s.roundOpens.arb = { s.arb with abstaining := false } := rfl

@[simp] theorem State.heldByOther_bus (s : State) :
    s.heldByOther.bus = { s.bus with view := .held, restGapOpen := false, turn := .none } := rfl

/-! ### Connection Engine -/

@[simp] theorem State.engineIdle_engine (s : State) : s.engineIdle.engine = .idle := rfl

@[simp] theorem State.engineIdle_mover (s : State) : s.engineIdle.mover = .idle := rfl

@[simp] theorem State.engineIdle_port (s : State) : s.engineIdle.port = s.port.giveUp := rfl

@[simp] theorem State.engineIdle_notes (s : State) : s.engineIdle.notes = { s.notes with reserved := false } := rfl

@[simp] theorem State.engineIdle_bus (s : State) :
    s.engineIdle.bus = s.bus.leave := rfl

@[simp] theorem Bus.leave_view (b : Bus) : b.leave.view = b.view := rfl

@[simp] theorem Bus.leave_holdsLine (b : Bus) : b.leave.holdsLine = b.holdsLine := rfl

@[simp] theorem Bus.leave_driving (b : Bus) : b.leave.driving = b.driving.filter Frame.ofStationControl := rfl

@[simp] theorem Bus.leave_outbox (b : Bus) : b.leave.outbox = b.outbox.filter Frame.ofStationControl := rfl

@[simp] theorem Bus.leave_received (b : Bus) : b.leave.received = b.received := rfl

@[simp] theorem State.leaveConnection_engine (s : State) : s.leaveConnection.engine = .idle := rfl

@[simp] theorem State.leaveConnection_mover (s : State) : s.leaveConnection.mover = .idle := rfl

@[simp] theorem State.abortFor_engine (s : State) (c : AbortCause) :
    (s.abortFor c).engine = { s.engine with abortDue := s.engine.abortDue.or (some c) } := rfl

@[simp] theorem State.hearPartner_bus (s : State) : s.hearPartner.bus = { s.bus with turn := .mine } := rfl

@[simp] theorem State.hearPartner_engine (s : State) :
    s.hearPartner.engine =
      { s.engine with silenceTimer := s.engine.silenceTimer.map fun _ => s.silenceLimit } := rfl

@[simp] theorem State.stopAnswerTimer_engine (s : State) :
    s.stopAnswerTimer.engine = { s.engine with answerTimer := none } := rfl

@[simp] theorem State.startCloseTimer_engine (s : State) :
    s.startCloseTimer.engine = { s.engine with closeTimer := some s.settings.ackTime } := rfl

@[simp] theorem State.answerContext_engine (s : State) (h : FrameHead) (r : ExchangeRole) (p : Purpose) (o : Operation)
    (n : Nat) :
    (s.answerContext h r p o n).engine =
      { Engine.idle with phase := .answering, busRole := .answering, role := r, partner := h.src,
                         tag := ⟨h.slot, h.gen⟩, purpose := p, op := o, length := n } := rfl

/-! ### Data mover and Local Port -/

@[simp] theorem State.moverGiveUp_mover (s : State) :
    s.moverGiveUp.mover = { s.mover with buffer := none, stores := [], fetch := none } := rfl

@[simp] theorem State.moverGiveUp_port (s : State) : s.moverGiveUp.port = s.port.giveUp := rfl

@[simp] theorem State.grant_port (s : State) : s.grant.port = s.port.grantNext := rfl

@[simp] theorem State.store_mem (s : State) (a : Nat) (b : List Byte) : (s.store a b).mem = Memory.write s.mem a b := rfl

/-! ### Tables -/

@[simp] theorem State.setSlot_sched (s : State) (i : SlotId) (x : Slot) :
    (s.setSlot i x).sched = { s.sched with slots := s.sched.slots.set i x } := rfl

@[simp] theorem State.setHold_service (s : State) (w : WindowId) (h : HoldState) :
    (s.setHold w h).service =
      { s.service with windows := s.service.windows.set w { s.window w with hold := h } } := rfl

@[simp] theorem State.updateEntry_service (s : State) (k : Key) (f : Entry → Entry) :
    (s.updateEntry k f).service =
      { s.service with entries := s.service.entries.map fun e => if e.key = k then f e else e } := rfl

@[simp] theorem State.addEntry_service (s : State) (e : Entry) :
    (s.addEntry e).service = { s.service with entries := s.service.entries ++ [e] } := rfl

@[simp] theorem State.storeNote_notes (s : State) (n : Note) :
    (s.storeNote n).notes = { s.notes with stored := s.notes.stored ++ [n] } := rfl

@[simp] theorem State.storeMessage_notes (s : State) (p : StationId) (b : List Byte) :
    (s.storeMessage p b).notes = { s.notes with stored := s.notes.stored ++ [.message p b], reserved := false } := rfl

/-! ### Reading a table after an update of it -/

theorem State.slot_setSlot (s : State) (i j : SlotId) (x : Slot) :
    (s.setSlot i x).slot j = if j = i then x else s.slot j := by
  simp only [State.slot, State.setSlot, Fin.getElem_fin, Vector.getElem_set]
  by_cases h : i = j
  · subst h; simp
  · have : j ≠ i := fun e => h e.symm
    have h' : (i : Nat) ≠ j := fun e => h (Fin.ext e)
    simp [this, h']

@[simp] theorem State.slot_setSlot_self (s : State) (i : SlotId) (x : Slot) : (s.setSlot i x).slot i = x := by
  simp [State.slot_setSlot]

theorem State.slot_setSlot_of_ne (s : State) {i j : SlotId} (x : Slot) (h : j ≠ i) :
    (s.setSlot i x).slot j = s.slot j := by
  simp [State.slot_setSlot, h]

theorem State.window_setHold (s : State) (w v : WindowId) (h : HoldState) :
    (s.setHold w h).window v = if v = w then { s.window w with hold := h } else s.window v := by
  simp only [State.window, State.setHold, Fin.getElem_fin, Vector.getElem_set]
  by_cases e : w = v
  · subst e; simp
  · have : v ≠ w := fun q => e q.symm
    have e' : (w : Nat) ≠ v := fun q => e (Fin.ext q)
    simp [this, e']

theorem State.peer_setPeer (s : State) (p q : StationId) (x : Peer) :
    (s.setPeer p x).peer q = if q = p then x else s.peer q := by
  simp only [State.peer, State.setPeer, Fin.getElem_fin, Vector.getElem_set]
  by_cases e : p = q
  · subst e; simp
  · have : q ≠ p := fun h => e h.symm
    have e' : (p : Nat) ≠ q := fun h => e (Fin.ext h)
    simp [this, e']

/-- A slot depends on the Exchange Table alone. -/
theorem State.slot_of_sched {s t : State} (h : t.sched = s.sched) (i : SlotId) : t.slot i = s.slot i := by
  simp [State.slot, h]

/-- A window and an entry depend on the Service Unit alone. -/
theorem State.window_of_service {s t : State} (h : t.service = s.service) (w : WindowId) : t.window w = s.window w := by
  simp [State.window, h]

theorem State.entry?_of_service {s t : State} (h : t.service = s.service) (k : Key) : t.entry? k = s.entry? k := by
  simp [State.entry?, h]

end Sys2Proof.Machine
end

