-- ==== Sys2Proof/Laws/Operations.lean ====
section
/-! SUPPORT. What each shared operation with a condition can do: it leaves the state as it is, or its condition holds and
it does what the rule says. -/

namespace Sys2Proof.Machine

/-! ### The port and the data path -/

/-- A command is lost while the port is BUSY, and taken otherwise (R166). -/
theorem State.takeCommand_cases (s : State) (act : Word → State → State) :
    (s.host.busy = true ∧ s.takeCommand act = { s with host := { s.host with lost := true } }) ∨
      (s.host.busy = false ∧ s.takeCommand act = act s.host.argument { s with host := { s.host with lost := false } }) := by
  unfold State.takeCommand; cases h : s.host.busy <;> simp

/-- A closing frame that is due begins, or nothing changes (R92). -/
theorem State.beginClosing_cases (s : State) :
    s.beginClosing = s ∨ ∃ c, s.engine.closing = some c ∧ s.engine.phase ≠ .closing ∧ s.engine.ackDue = false ∧
      s.mayDrive = true ∧ s.abortCause? = none ∧ s.beginClosing = s.drive (s.connFrame c.body) := by
  unfold State.beginClosing
  split
  · rename_i c h
    split
    · rename_i g
      exact .inr ⟨c, h, g.1, g.2.1, g.2.2.1, g.2.2.2, rfl⟩
    · exact .inl rfl
  · exact .inl rfl

/-- The oldest waiting frame goes out, the closing frame that is due, or nothing changes (R53, R92). -/
theorem State.pump_cases (s : State) :
    s.pump = s ∨
      (∃ f rest, s.bus.outbox = f :: rest ∧ s.mayDrive = true ∧ (f.ofStationControl = true ∨ s.abortCause? = none) ∧
        s.pump = { s with bus := { s.bus with driving := some f, outbox := rest } }) ∨
      (∃ c, s.bus.outbox = [] ∧ s.engine.closing = some c ∧ s.engine.phase ≠ .closing ∧ s.engine.ackDue = false ∧
        s.mayDrive = true ∧ s.abortCause? = none ∧ s.pump = s.drive (s.connFrame c.body)) := by
  unfold State.pump
  split
  · rename_i f rest h
    split
    · rename_i g
      exact .inr (.inl ⟨f, rest, h, g.1, g.2, rfl⟩)
    · exact .inl rfl
  · rename_i h
    rcases s.beginClosing_cases with e | ⟨c, h1, h2, h3, h4, h5, h6⟩
    · exact .inl e
    · exact .inr (.inr ⟨c, h, h1, h2, h3, h4, h5, h6⟩)

/-- The pump touches the data path alone. -/
theorem State.pump_eq (s : State) :
    s.pump = { s with bus := { s.bus with driving := s.pump.bus.driving, outbox := s.pump.bus.outbox } } := by
  rcases s.pump_cases with h | ⟨f, rest, _, _, _, h⟩ | ⟨c, _, _, _, _, _, _, h⟩ <;> rw [h]
  rfl

/-- At this station's turn the pump is what the claims call the turn (R53). -/
theorem State.pump_atTurn (s : State) (d : s.bus.driving = none) (t : s.bus.turn = .mine) (r : s.bus.received = none)
    (v : s.bus.view = .held ∨ s.bus.view = .free) : s.pump = s.atTurn s.bus.outbox := by
  have m : s.mayDrive = true := by simp [State.mayDrive, d, t, v]
  have b : s.bus = { s.bus with turn := .mine, received := none } := by
    rw [← t, ← r]
  unfold State.pump State.atTurn
  split
  · rename_i f rest h
    rw [← b]
    simp only [m, true_and, Frame.ofStationControl, h]
    split
    · rfl
    · rw [← d, ← h]
  · rename_i h
    rw [← b]
    simp only [State.beginClosing, State.closingDue?, h, m, true_and]
    cases c : s.engine.closing with
    | none => simp [← d, ← h]
    | some c =>
      dsimp only
      split
      · simp [State.drive, ← h]
      · rw [← d, ← h]

/-- The frames that wait are those a station keeps when it gives way (R53). -/
theorem State.yieldPath_eq (s : State) :
    s.yieldPath = { s with bus := { s.bus with driving := none, outbox := s.waiting } } := by
  unfold State.yieldPath State.waiting
  split
  · rename_i h
    simp only [h, Option.toList, List.filter, List.nil_append]
    rw [← h]
  · rename_i f h
    simp only [h, Frame.ofStationControl, Option.toList, List.filter]
    have g (b : Bool) (o : List Frame) :
        (if b = true then f :: o else o) = (match b with | true => [f] | false => []) ++ o := by cases b <;> rfl
    congr 2
    exact g _ _

/-- A free data path takes a frame at once (R53). -/
theorem State.send_now (s : State) (f : Frame) (h : s.mayDrive = true) (o : s.bus.outbox = [])
    (a : f.ofStationControl = true ∨ s.abortCause? = none) :
    s.send f = { s with bus := { s.bus with driving := some f, outbox := [] } } := by
  have hm : ({ s with bus := { s.bus with outbox := s.bus.outbox ++ [f] } } : State).mayDrive = true := h
  have ha : f.ofStationControl = true ∨ ({ s with bus := { s.bus with outbox := [f] } } : State).abortCause? = none := a
  simp only [State.send, State.pump, o, List.nil_append] at hm ⊢
  rw [if_pos ⟨hm, ha⟩]

/-- Anything else leaves it waiting. -/
theorem State.send_later (s : State) (f : Frame) (h : s.mayDrive = false) :
    s.send f = { s with bus := { s.bus with outbox := s.bus.outbox ++ [f] } } := by
  have hm : ({ s with bus := { s.bus with outbox := s.bus.outbox ++ [f] } } : State).mayDrive = false := h
  simp only [State.send, State.pump] at hm ⊢
  split
  · simp [hm]
  · simp [State.beginClosing, hm]
    split <;> rfl

/-- A request is granted by an idle port and waits otherwise (R142). -/
theorem State.request_port (s : State) (who : Requester) (t : Transaction) :
    (s.request who t).port = s.port.asked who t := by
  unfold State.request Port.asked
  cases h : s.port.current <;> simp [h]

/-- A request changes the port alone. -/
theorem State.request_eq (s : State) (who : Requester) (t : Transaction) :
    s.request who t = { s with port := s.port.asked who t } := by
  unfold State.request Port.asked
  cases h : s.port.current <;> simp [h]

/-- The drain test changes nothing, or takes a drained LEAVING station OFFLINE (R161). -/
theorem State.drainTest_cases (s : State) :
    (s.drained = false ∧ s.drainTest = s) ∨ (s.drained = true ∧ s.drainTest = s.goOffline .drained) := by
  unfold State.drainTest; cases h : s.drained <;> simp

/-- A station that is not LEAVING is not drained. -/
theorem State.drainTest_of_not_leaving (s : State) (h : s.station.state ≠ .leaving) : s.drainTest = s := by
  simp [State.drainTest, State.drained, h]

/-! ### Slots -/

theorem State.finishSlot_cases (s : State) (i : SlotId) (o : ExchangeOutcome) :
    s.finishSlot i o = s ∨
      (((s.slot i).state.live = true ∨ (s.slot i).state = .loading) ∧
        s.finishSlot i o = { s with sched :=
          { slots := s.sched.slots.set i { s.slot i with state := .finished, outcome := some o,
                                                         moreToCome := (s.slot i).more o, deadline := none }
            ready := s.sched.ready.erase i, finished := s.sched.finished ++ [i] } }) := by
  unfold State.finishSlot
  by_cases h : (s.slot i).state.live = true ∨ (s.slot i).state = .loading
  · exact .inr ⟨h, by simp only [h, if_true]; rfl⟩
  · exact .inl (by simp only [h, if_false])

theorem State.queueSlot_cases (s : State) (i : SlotId) :
    s.queueSlot i = s ∨
      (((s.slot i).state = .loading ∨ (s.slot i).state = .armed ∨ (s.slot i).state = .selected) ∧
        s.queueSlot i = { s with sched := { s.sched with
          slots := s.sched.slots.set i { s.slot i with state := .queued, callOut := false }
          ready := s.sched.ready ++ [i] } }) := by
  unfold State.queueSlot
  by_cases h : (s.slot i).state = .loading ∨ (s.slot i).state = .armed ∨ (s.slot i).state = .selected
  · exact .inr ⟨h, by simp only [h, if_true]; rfl⟩
  · exact .inl (by simp only [h, if_false])

theorem State.disconnectSlot_cases (s : State) (i : SlotId) :
    s.disconnectSlot i = s ∨ (((s.slot i).state = .selected ∨ (s.slot i).state = .active) ∧
      s.disconnectSlot i = s.setSlot i { s.slot i with state := .disconnected, deadline := some s.resumeSpan }) := by
  unfold State.disconnectSlot
  by_cases h : (s.slot i).state = .selected ∨ (s.slot i).state = .active
  · exact .inr ⟨h, by simp only [h, if_true]⟩
  · exact .inl (by simp only [h, if_false])

theorem State.activateSlot_cases (s : State) (i : SlotId) :
    s.activateSlot i = s ∨ (((s.slot i).state = .selected ∨ (s.slot i).state = .disconnected) ∧
      s.activateSlot i = s.setSlot i { s.slot i with state := .active, deadline := none }) := by
  unfold State.activateSlot
  by_cases h : (s.slot i).state = .selected ∨ (s.slot i).state = .disconnected
  · exact .inr ⟨h, by simp only [h, if_true]⟩
  · exact .inl (by simp only [h, if_false])

/-! ### Service entries -/

/-- A HOLDING window that nothing keeps becomes HELD (R43). -/
theorem State.windowCheck_cases (s : State) (w : WindowId) :
    s.windowCheck w = s ∨ ((s.window w).hold = .holding ∧ s.service.entries.any (·.keeps w) = false ∧
      s.windowCheck w = (s.setHold w .held).raise .windowHeld) := by
  unfold State.windowCheck
  by_cases h : (s.window w).hold = .holding ∧ ¬ s.service.entries.any (·.keeps w)
  · exact .inr ⟨h.1, by simpa using h.2, by rw [if_pos h]⟩
  · exact .inl (by rw [if_neg h])

theorem State.queueEntry_of_none (s : State) (k : Key) (f : Entry → Entry) (h : s.entry? k = none) :
    s.queueEntry k f = s := by simp [State.queueEntry, h]

theorem State.queueEntry_queue (s : State) (k : Key) (f : Entry → Entry) (e : Entry) (h : s.entry? k = some e) :
    (s.queueEntry k f).service.queue = s.service.queue.erase k ++ [k] := by simp [State.queueEntry, h]

/-- A taken key names an entry of the table with that key. -/
theorem State.entry?_key {s : State} {k : Key} {e : Entry} (h : s.entry? k = some e) :
    e ∈ s.service.entries ∧ e.key = k := by
  have h' := List.find?_some h
  exact ⟨List.mem_of_find?_eq_some h, by simpa using h'⟩

/-- An entry that is parked and READY again in the same happening is as if it had joined the resume queue at once: the stamp
it takes is the highest (R36, R44, R45, R101). -/
theorem State.readyEntry_parkEntry (s : State) (k : Key) (e : Entry) (h : s.entry? k = some e) (n : e.stamp = none)
    (p : e.state ≠ .parked) (q : k ∉ s.service.queue) (l : s.station.state ≠ .leaving)
    (b : ∀ f ∈ s.service.entries, ∀ m, f.stamp = some m → m ≤ parkedCount s.service.entries) :
    (s.parkEntry k).readyEntry k = s.readyEntry k := by
  let g : Entry → Entry := fun x =>
    if x.key = k then { x with state := .parked, stamp := some (parkedCount s.service.entries + 1),
                               parkTimer := some s.parkSpan } else x
  have hk : e.key = k := (State.entry?_key h).2
  have hp : s.parkEntry k = { s with service := { s.service with
      entries := s.service.entries.map g, queue := s.service.queue.erase k } } := by
    simp only [State.parkEntry, l, h, p, if_false]; rfl
  have key : ∀ x : Entry, (g x).key = x.key := fun x => by simp only [g]; split <;> rfl
  have he : (s.parkEntry k).entry? k = some (g e) := by
    rw [hp]
    simp only [State.entry?] at h ⊢
    rw [List.find?_map, show ((fun x : Entry => decide (x.key = k)) ∘ g) = fun x => decide (x.key = k) from
      funext fun x => by simp only [Function.comp, key], h]
    rfl
  have hg : (g e).stamp = some (parkedCount s.service.entries + 1) := by simp only [g, hk, if_true]
  have hm : ∀ x ∈ s.service.entries,
      (if (g x).key = k then { g x with state := .ready, stamp := none, parkTimer := none } else
        { g x with stamp := (g x).stamp.map fun m => if m > parkedCount s.service.entries + 1 then m - 1 else m }) =
      (if x.key = k then { x with state := EntryState.ready, stamp := none, parkTimer := none } else x) := by
    intro x hx
    rw [key]
    by_cases c : x.key = k
    · simp only [g, c, if_true]
    · have t : x.stamp.map (fun m => if m > parkedCount s.service.entries + 1 then m - 1 else m) = x.stamp := by
        cases hs : x.stamp with
        | none => rfl
        | some m =>
          have := b x hx m hs
          simp only [Option.map_some, show ¬ m > parkedCount s.service.entries + 1 by omega, if_false]
      simp only [g, c, if_false, t]
  rw [State.readyEntry, State.queueEntry, he, State.readyEntry, State.queueEntry, h]
  dsimp only
  rw [hg, n, hp]
  have hl := List.map_congr_left hm
  simp only [closeStamp, List.map_map, Function.comp_def, List.erase_of_not_mem q, ← hl]

/-- Removing the entry of a key that the table does not hold changes nothing. -/
theorem State.dropEntry_of_none (s : State) (k : Key) (h : s.entry? k = none) : s.dropEntry k = s := by
  simp [State.dropEntry, h]

theorem State.retireEntry_of_none (s : State) (k : Key) (h : s.entry? k = none) : s.retireEntry k = s := by
  simp [State.retireEntry, State.removeEntry, h]

/-! ### Frames heard -/

/-- A frame that is delivered is taken by `deliver` on a state whose Peer Table marks the source PRESENT and whose own frames
wait (R53, R58, R163). -/
theorem State.hear_delivered (s : State) (h : FrameHead) (deliver : State → State) (d : s.delivers h) :
    s.hear h deliver = (deliver ({ s with station := s.station.heard h.src } : State).yieldPath).pump.drainTest := by
  obtain ⟨_, hst, hd, hs, ho⟩ := d
  have e : s.sourceReport h.src = { s with station := s.station.heard h.src } := by
    simp [State.sourceReport, hs, State.setPeer, Station.heard]
  unfold State.hear
  rw [if_pos hd]
  rcases hst with h1 | h1 <;> simp only [h1, if_neg hs, if_pos ho, e]

/-- A frame that is received is taken from the buffer, which is empty again (R57). -/
theorem State.receiveFrame_of_receives (s : State) (f : Frame) (r : s.receives = true) :
    s.receiveFrame f = ({ s with bus := { s.bus with received := none } } : State).takeFrame f := by
  simp [State.receiveFrame, r, State.takeReceived]

/-- Where no frame is received, none has an effect (R57). -/
theorem State.receiveFrame_deaf (s : State) (f : Frame) (r : s.receives = false) : s.receiveFrame f = s := by
  simp [State.receiveFrame, r]

/-! ### Ends of a connection, a slot and an entry, in the terms of the claims -/

/-- A frame of the connection that is driven stops, and none that waits goes out (R53). -/
theorem Bus.leave_eq (b : Bus) :
    b.leave = { b with
      driving := b.driving.filter fun f => f.body.isRollCall
      outbox := b.outbox.filter Frame.ofStationControl
      turn := if ∃ f ∈ b.driving, f.body.isRollCall = false then .theirs else b.turn } := by
  have e : Frame.ofStationControl = fun f => f.body.isRollCall := rfl
  cases h : b.driving <;> simp [Bus.leave, h, e]

/-- A side of a connection ends as `offConnection` says (R96 to R98, R151). -/
theorem State.leaveConnection_eq (s : State) : s.leaveConnection = s.offConnection := by
  unfold State.leaveConnection State.offConnection
  split <;> simp [State.engineIdle, State.releaseLine, Bus.leave_eq, *]

/-- An exchange that is not standing, or does not end DONE, has nothing more to come (R22). -/
theorem Slot.more_eq (x : Slot) (o : ExchangeOutcome) : x.more o = (decide (o = .done) && x.moreAfterDone) := by
  unfold Slot.more Slot.moreAfterDone
  cases x.standing <;> simp [Bool.and_assoc]

/-- A live slot ends as `Scheduler.ended` says (R22). -/
theorem State.finishSlot_eq (s : State) (i : SlotId) (o : ExchangeOutcome) (h : (s.slot i).state.live = true) :
    s.finishSlot i o = { s with sched := s.sched.ended i o ((s.slot i).more o) } := by
  unfold State.finishSlot
  simp only [h, true_or, if_true]
  rfl

/-- A closing frame that answers an ACCEPT at once: CLOSING as closer, the frame handed over (R81). -/
theorem State.closeAtOnce_eq (s : State) (c : ClosingFrame) :
    s.closeAtOnce c = { s with engine := { s.engine with
      phase := .closing, closeRetries := 0, ackDue := false, ackTimer := none, silenceTimer := none
      closing := some c } }.sendBody c.body := rfl

/-- An entry that was neither PARKED nor taken leaves the table as `afterEntry` says (R35, R43). -/
theorem State.removeEntry_eq (s : State) (k : Key) (e : Entry) (h : s.entry? k = some e) (p : e.stamp = none)
    (t : e.state ≠ .resuming ∧ e.state ≠ .withdrawing) : s.removeEntry k = s.afterEntry k e.window := by
  have hk : (fun f : Entry => f.keeps e.window) =
      fun f : Entry => decide (f.window = e.window) && (decide (f.state = .connected) || decide (f.state = .resuming)) := rfl
  simp only [State.removeEntry, h, p, closeStamp, t.1, t.2, or_self, if_false, State.windowCheck, State.afterEntry, hk]
  obtain c | c := Decidable.em ((s.window e.window).hold = .holding) <;>
    cases d : (s.service.entries.filter fun f => f.key ≠ k).any (fun f => decide (f.window = e.window) &&
      (decide (f.state = .connected) || decide (f.state = .resuming))) <;>
    simp_all [State.window, State.setHold, State.raise, HostInterface.raised]

end Sys2Proof.Machine
end

