-- ==== Sys2Proof/Tests/Slice0.lean ====
section
/-! SUPPORT. Small tests: ill-formed commands refused, frames and records written out from file 12, one-step tests, and for
every statement with hypotheses a concrete state and operands that meet them. -/

namespace Sys2Proof.Tests

set_option Elab.async false

open Sys2Proof Sys2Proof.Machine

/-! ### Well-formedness refuses each ill-formed operand -/

def link : FrameHead := ⟨2, 1, 5, 3⟩
def selfHead : FrameHead := ⟨1, 1, 5, 3⟩

theorem test_wf_undefinedCode : (Instr.undefinedCommandCode 5).wf = false := by decide +kernel
theorem test_wf_undefinedCode_edge : (Instr.undefinedCommandCode 13).wf = true ∧ (Instr.undefinedCommandCode 12).wf = false := by
  decide +kernel
theorem test_wf_registerWrite : (Instr.registerWrite 0x2C 0).wf = false ∧ (Instr.registerWrite 0x28 0).wf = true := by decide +kernel
theorem test_wf_frameBadCrc : (Instr.frameBadCrc [0x08, 0x12, 0x53, 0xB2, 0xD1]).wf = false := by decide +kernel
theorem test_wf_selfHead :
    [Instr.connectReceived selfHead 1 0 0 1, .acceptReceived selfHead 0, .refuseReceived selfHead 1,
      .dataReceived selfHead 0 [1], .ackReceived selfHead 0, .nakReceived selfHead 0, .finishReceived selfHead 1,
      .disconnectReceived selfHead 1 0, .endReceived selfHead, .resumeReceived selfHead 0, .withdrawReceived selfHead 1,
      .abortReceived selfHead 1].all (fun c => !c.wf) = true := by decide +kernel
theorem test_wf_rollHead : (Instr.rollcallReceived link 0).wf = false ∧ (Instr.presentReceived link).wf = false := by decide +kernel
theorem test_wf_offset :
    [Instr.acceptReceived link 16777217, .disconnectReceived link 1 16777217, .resumeReceived link 16777217].all
      (fun c => !c.wf) = true ∧ (Instr.acceptReceived link 16777216).wf = true := by decide +kernel
theorem test_wf_total :
    (Instr.finishReceived link 0).wf = false ∧ (Instr.finishReceived link 16777217).wf = false ∧
      (Instr.finishReceived link 1).wf = true := by decide +kernel
theorem test_wf_reason :
    [Instr.refuseReceived link 0, .refuseReceived link 10, .disconnectReceived link 3 0, .withdrawReceived link 3,
      .abortReceived link 4].all (fun c => !c.wf) = true := by decide +kernel
theorem test_wf_seq :
    [Instr.dataReceived link 8 [1], .ackReceived link 8, .nakReceived link 8].all (fun c => !c.wf) = true := by decide +kernel
theorem test_wf_payload :
    (Instr.dataReceived link 0 []).wf = false ∧ (Instr.dataReceived link 0 (List.replicate 257 0)).wf = false ∧
      (Instr.dataReceived link 0 (List.replicate 256 0)).wf = true := by decide +kernel
theorem test_wf_readBytes :
    [Instr.descriptorLoadEnds [], .configLoadEnds [], .payloadReadEnds [], .segmentEntryFetched [],
      .localTransactionEnds (List.replicate 65 0)].all (fun c => !c.wf) = true := by decide +kernel

/-! ### Frames written out from 13.4; the CRC worked out by hand from R56 -/

theorem test_frame_end : Frame.encode ⟨⟨1, 2, 5, 3⟩, .endConnection⟩ = [0x08, 0x12, 0x53, 0xB2, 0xD1] := by decide +kernel
theorem test_frame_present : Frame.encode ⟨⟨1, 1, 0, 0⟩, .present⟩ = [0x0D, 0x11, 0x00, 0xBA, 0x1E] := by decide +kernel
theorem test_frame_connect :
    Frame.decode [0x01, 0x12, 0x53, 2, 1, 0, 0, 1, 0, 0, 0, 2, 0x58, 0x33, 0x84] =
      some ⟨⟨1, 2, 5, 3⟩, .connect 2 1 256 600⟩ := by decide +kernel
theorem test_frame_ack : Frame.decode [0x05, 0x21, 0x53, 7, 0xDB, 0xF6] = some ⟨⟨2, 1, 5, 3⟩, .ack 7⟩ := by decide +kernel
theorem test_frame_data :
    Frame.decode [0x04, 0x12, 0x53, 0, 2, 0xAA, 0xBB, 0xCC, 0x1E, 0x73] =
      some ⟨⟨1, 2, 5, 3⟩, .data 0 [0xAA, 0xBB, 0xCC]⟩ := by decide +kernel
theorem test_frame_disconnect_top :
    Frame.decode [0x0E, 0x21, 0x53, 2, 1, 0, 0, 0, 0x59, 0x90] =
      some ⟨⟨2, 1, 5, 3⟩, .disconnect .held 16777216⟩ := by decide +kernel
theorem test_frame_rollcall :
    Frame.decode [0x0C, 0x33, 0x00, 0xBE, 0xEF, 0x55, 0x35] = some ⟨⟨3, 3, 0, 0⟩, .rollcall 0xBEEF⟩ := by decide +kernel
theorem test_frame_badCrc : Frame.decode [0x08, 0x12, 0x53, 0xB2, 0xD0] = none := by decide +kernel
theorem test_frame_illFormed :
    Frame.decode [0x05, 0x21, 0x53, 8, 0x91, 0x20] = none ∧ Frame.decode [0x08, 0x11, 0x53, 0x2D, 0x77] = none ∧
      Frame.decode [0x0F, 0x12, 0x53, 0x42, 0x54] = none ∧
      Frame.decode [0x07, 0x12, 0x53, 0, 0, 0, 0, 0x0B, 0x9B] = none ∧ Frame.decode [0x08] = none := by decide +kernel

/-! ### Records written out from 13.2 and 13.3 -/

/-- A standing WRITE of 1,000 bytes to window 1 of station 2. -/
def descriptorBytes : List Byte :=
  [2, 2, 1, 1, 1, 3, 3, 0, 0, 1, 0, 0, 0xE8, 3, 0, 0, 0x00, 0x10, 0, 0, 0, 0, 0, 0, 0x44, 0x33, 0x22, 0x11, 0, 0, 0, 0]

theorem test_descriptor :
    (parseDescriptor descriptorBytes).length = 1000 ∧ (parseDescriptor descriptorBytes).offset = 256 ∧
      (parseDescriptor descriptorBytes).localAddr = 4096 ∧ (parseDescriptor descriptorBytes).standing = true ∧
      (parseDescriptor descriptorBytes).failing? 1 = none ∧ (parseDescriptor descriptorBytes).failing? 2 = some 2 := by
  decide +kernel

/-- Station 1 with a ring of 16 places at 4096 and window 0 of 256 bytes at 64. -/
def configBytes : List Byte :=
  [1, 0, 9, 0, 20, 20, 2, 0, 2, 0, 4, 0, 16, 0, 4, 0, 0, 16, 0, 0] ++ List.replicate 12 0 ++
    [3, 0, 4, 0, 4, 0, 0, 0, 64, 0, 0, 0, 0, 1, 0, 0] ++ List.replicate 112 0

theorem test_config :
    (parseConfig configBytes).failing? = none ∧ (parseConfig configBytes).ringBase = 4096 ∧
      ((parseConfig configBytes).window 0).size = 256 ∧ ((parseConfig configBytes).window 7).enabled = false := by
  decide +kernel

/-! ### Small states -/

def cfg : Settings :=
  { id := 1, serial := 7, answerTime := 20, ackTime := 20, resumeDeadline := 2, parkLimit := 4, tenureLimit := 2,
    ringSize := 16, ringBase := 4096, noteSenders := 4 }

def nextOf (o : Host.Outcome State Fault Refusal) : State :=
  match o with
  | .next t => t
  | .fault _ => State.reset
  | .refused _ => State.reset

def completes (o : Host.Outcome State Fault Refusal) : Bool :=
  match o with
  | .next _ => true
  | .fault _ => false
  | .refused _ => false

/-- A station in a given state with the configured values in force. -/
def station (st : StationState) : State :=
  { State.reset with station := { Station.offline with state := st, settings := some cfg } }

def on : State := station .online

def arg (s : State) (a : Word) : State := { s with host := { s.host with argument := a } }
def view (s : State) (v : BusView) : State := { s with bus := { s.bus with view := v } }
def slot (st : SlotState) : Slot :=
  { Slot.blank 3 with state := st, op := .write, peer := 2, window := 1, offset := 256, length := 600, localAddr := 64 }
def part : Standing :=
  { line := 3, repeatCount := 2, repetitions := 1, missed := 255, stopRequested := false, postingGen := 2,
    reloadOffset := 256, reloadLocal := 64, reloadLength := 600 }
def put (s : State) (i : SlotId) (x : Slot) : State := { s with sched := s.sched.put i x }
def key : Key := ⟨2, ⟨5, 3⟩⟩
def entry (st : EntryState) : Entry :=
  { key := key, op := .write, window := 1, offset := 0, length := 600, progress := 256, state := st, parkTimer := none,
    noAnswers := 0, reservation := false, withdrawReason := none, stamp := none }
def parked (n : Nat) (slot : SlotId) : Entry :=
  { entry .parked with key := ⟨2, ⟨slot, 3⟩⟩, parkTimer := some 256, stamp := some n }
def win (h : HoldState) : Window :=
  { enabled := true, base := 65536, size := 4096, readSet := 0xFFFF, writeSet := 4, announce := true, hold := h }
def serve (s : State) (h : HoldState) (es : List Entry) (q : List Key) : State :=
  { s with service := { windows := s.service.windows.set 1 (win h), entries := es, queue := q } }
/-- The Engine party to a connection with station 2 under tag 5.3. -/
def engine (p : Phase) (b : BusRole) (r : ExchangeRole) (op : Operation) : Engine :=
  { Engine.idle with phase := p, busRole := b, role := r, partner := 2, tag := ⟨5, 3⟩, op := op, length := 600 }
def serving (s : State) (e : Engine) : State := { view s .held with engine := e }
def sent (q : SeqNo) (pos len : Nat) : SentFrame := ⟨q, pos, len, 0, ⟨0, 0⟩⟩
def granted (s : State) (who : Requester) (t : Transaction) : State :=
  { s with port := { s.port with current := some ⟨who, t, .running⟩ } }

/-! ### Witnesses: the hypotheses of each statement, clause by clause, met by concrete states and operands -/

/-- Slots of every kind, entries of several states on a READY and a HELD window, notes, memory, four frames out. -/
def rich : State :=
  let s := put (put (put (put on 0 (slot .queued)) 1 (slot .selected)) 2 (slot .finished)) 15 { slot .armed with standing := some part }
  let s := serve s .held [parked 1 0, parked 2 1, { entry .withdrawDue with withdrawReason := some .leaving }] [key]
  { s with
    sched := { s.sched with ready := [0], finished := [2] }
    engine := { Engine.idle with unacked := [sent 0 0 256, sent 1 256 256, sent 2 512 256, sent 3 768 256] }
    notes := { s.notes with stored := List.replicate 16 (.message 2 [1]) }
    mem := [(64, 1), (65, 2)]
    pending := [.restGap] }

theorem witness_StepTakesFront :
    ({ on with pending := [.restGap, .join] } : State).pending = .restGap :: [.join] ∧ on.pending = [] := by decide +kernel

theorem witness_EveryCommandCompletes : completes (exec .contend rich) = true := by decide +kernel

theorem witness_EveryCommandCompletes_fault :
    0x2C ∉ registerOffsets ∧ completes (exec (.registerWrite 0x2C 0) on) = false := by decide +kernel

theorem witness_SlotListsKept : SlotLists rich ∧ completes (step rich) = true := by
  unfold SlotLists; decide +kernel

theorem witness_SelectionCreditAndMemoryKept :
    OneSelected rich ∧ Credit rich ∧ MemoryForm rich ∧ BufferEmpty rich ∧ completes (step rich) = true := by
  unfold OneSelected Credit MemoryForm BufferEmpty; decide +kernel

theorem witness_ServiceTableKept : ServiceTable rich ∧ completes (step rich) = true := by
  unfold ServiceTable; decide +kernel

theorem witness_HoldStatesKept : ServiceTable rich ∧ HoldStates rich ∧ completes (step rich) = true := by
  unfold ServiceTable HoldStates; decide +kernel

theorem witness_ParkOrderKept : ServiceTable rich ∧ ParkOrder rich ∧ completes (step rich) = true := by
  unfold ServiceTable ParkOrder; decide +kernel

theorem witness_NotePlacesKept : NotePlaces rich ∧ completes (step rich) = true := by
  unfold NotePlaces; decide +kernel

theorem witness_ProgressNeverDecreases :
    (rich.slot 0).state = .queued ∧ (rich.slot 1).state = .selected ∧
      ((nextOf (exec .resetLineAsserted rich)).slot 1).state = .finished := by decide +kernel

theorem witness_FrameRoundTrip :
    (⟨link, .accept 16777216⟩ : Frame).wf = true ∧ (⟨link, .data 7 (List.replicate 256 5)⟩ : Frame).wf = true ∧
      (⟨selfHead, .present⟩ : Frame).wf = true := by decide +kernel

/-- The port BUSY with a load. -/
def busyPort : State := { on with host := { on.host with busy := true } }

theorem witness_CommandPort :
    busyPort.host.busy = true ∧ (nextOf (exec .busReset busyPort)).host.lost = true ∧ on.host.busy = false ∧
      12 < (13 : Byte).toNat := by decide +kernel

/-- OFFLINE with a record still to write. -/
def unwritten : State := { State.reset with sched := { State.reset.sched with finished := [2] } }
/-- Every slot taken. -/
def fullTable : State := slotIds.foldl (fun s i => put s i (slot .queued)) on

theorem witness_LoadsBegin :
    (State.reset.host.busy = false ∧ State.reset.station.state = .offline ∧ State.reset.sched.finished = []) ∧
      ¬ (unwritten.station.state = .offline ∧ unwritten.sched.finished = []) ∧
      State.reset.station.state ≠ .online ∧
      (fullTable.station.state = .online ∧ ∀ i, (fullTable.slot i).state ≠ .free) ∧
      ((rich.slot 3).state = .free ∧ ∀ j : SlotId, j < 3 → (rich.slot j).state ≠ .free) ∧
      (nextOf (exec .post (arg on 100))).port.current = some ⟨.loader, .read 100 28, .running⟩ := by decide +kernel

theorem witness_LeaveCommand_full : rich.host.busy = false ∧ rich.station.state = .online ∧ State.reset.station.state ≠ .online := by
  decide +kernel

theorem rich_lists : SlotLists rich ∧ OneSelected rich := by
  unfold SlotLists OneSelected; decide +kernel

theorem rich_table : ServiceTable rich ∧ ParkOrder rich := by
  unfold ServiceTable ParkOrder; decide +kernel

/-- All the premises of the ONLINE clause. -/
theorem witness_LeaveCommand : SlotLists rich ∧ OneSelected rich ∧ ServiceTable rich ∧ ParkOrder rich :=
  ⟨rich_lists.1, rich_lists.2, rich_table⟩

theorem on_lists : SlotLists on ∧ OneSelected on := by
  unfold SlotLists OneSelected; decide +kernel

/-- ONLINE and nothing in any table: the drain is complete at once. -/
theorem witness_LeaveCommand_empty :
    ServiceTable on ∧ ParkOrder on ∧ (∀ i, (on.slot i).state = .free) ∧ on.service.entries = [] ∧
      on.engine.phase = .idle := by
  unfold ServiceTable ParkOrder; decide +kernel

/-- As `rich` without its SELECTED slot: the case of R160 that changes nothing else. -/
def noSelected : State := put rich 1 (Slot.blank 0)

theorem witness_LeaveCommand_rest :
    (∀ i, (noSelected.slot i).state ≠ .selected) ∧
      ¬ ((∀ i, (noSelected.slot i).state = .free) ∧ noSelected.service.entries = [] ∧ noSelected.engine.phase = .idle) ∧
      SlotLists noSelected ∧ OneSelected noSelected := by
  unfold SlotLists OneSelected; decide +kernel

theorem witness_CancelCommand :
    on.host.busy = false ∧ 15 < (arg on 16).host.argument.toNat % 256 ∧
      ((arg rich 0x30F).host.argument.toNat % 256 = (15 : SlotId).val ∧
        (arg rich 0x30F).host.argument.toNat / 256 % 16 = (rich.slot 15).gen.val ∧ (rich.slot 15).state = .armed) ∧
      ((arg rich 0x20F).host.argument.toNat / 256 % 16 = part.postingGen.val ∧
        (rich.slot 15).standing = some part) ∧
      ((rich.slot 3).state = .free ∧ (arg rich 0x003).host.argument.toNat % 256 = (3 : SlotId).val) ∧
      ((put rich 1 { slot .selected with callOut := true }).slot 1).callOut = true ∧
      ((rich.slot 1).state = .selected ∧ (rich.slot 1).callOut = false ∧ rich.engine.phase = .idle) ∧
      ((put on 5 (slot .active)).slot 5).state = .active := by decide +kernel

theorem witness_StopStandingCommand :
    on.host.busy = false ∧ 15 < (arg on 0xFF).host.argument.toNat % 256 ∧ (rich.slot 0).standing = none ∧
      ((rich.slot 15).standing = some part ∧ (4 : Nat) ≠ (rich.slot 15).gen.val ∧ (4 : Nat) ≠ part.postingGen.val) ∧
      ((rich.slot 15).state = .armed ∧ (2 : Nat) = part.postingGen.val) ∧
      ((put on 0 { slot .queued with standing := some part }).slot 0).state = .queued := by decide +kernel

/-- Window 1 READY with a READY entry, then with none kept. -/
def readyWin : State := serve on .ready [entry .ready, { entry .connected with key := ⟨3, ⟨0, 0⟩⟩ }] [key]
/-- A READ target in its tenure with nothing outstanding and data left. -/
def readTarget : State :=
  serving (serve on .ready [{ entry .connected with op := .read }] [])
    { engine .sending .answering .target .read with sendPos := 256 }

theorem witness_HoldCommand :
    on.host.busy = false ∧ State.reset.station.state = .offline ∧ 7 < (arg on 8).host.argument.toNat % 256 ∧
      ((arg on 7).host.argument.toNat % 256 = (7 : WindowId).val ∧ (on.window 7).enabled = false) ∧
      ((serve on .holding [entry .connected] []).window 1).hold = .holding ∧
      ((serve on .held [] []).window 1).hold = .held ∧
      ((readyWin.window 1).hold = .ready ∧ ServiceTable readyWin ∧ readyWin.engine.role = .initiator) ∧
      ServiceTable (serve on .ready [entry .ready] [key]) := by
  unfold ServiceTable; decide +kernel

theorem witness_HoldCommand_leaving :
    (serve (station .leaving) .ready [entry .ready] [key]).station.state = .leaving ∧
      ∀ e ∈ (serve (station .leaving) .ready [entry .ready] [key]).service.entries, e.state ≠ .parked ∧ e.stamp = none := by
  decide +kernel

theorem witness_HoldCommand_read :
    let s := arg readTarget 1
    let e : Entry := { entry .connected with op := .read }
    s.host.busy = false ∧ s.station.state = .online ∧ s.entry? s.engine.key = some e ∧
      s.host.argument.toNat % 256 = e.window.val ∧ (s.window e.window).enabled = true ∧
      (s.window e.window).hold = .ready ∧ e.state = .connected ∧ s.engine.role = .target ∧ s.engine.phase = .sending ∧
      s.engine.abortDue = none ∧ s.engine.unacked = [] ∧ s.engine.tenureCount < s.settings.tenureLimit ∧
      s.engine.sendPos < s.engine.length ∧ s.engine.length ≤ Config.maxLength ∧ s.ownId ≠ s.engine.partner := by
  decide +kernel

/-- Window 1 HELD with two PARKED entries, a third PARKED on window 2 between them. -/
def heldWin : State :=
  serve on .held [parked 1 0, { parked 2 1 with window := 2 }, parked 3 2] []

theorem witness_ReleaseCommand :
    on.host.busy = false ∧ State.reset.station.state = .offline ∧ 7 < (arg on 255).host.argument.toNat % 256 ∧
      (on.window 7).enabled = false ∧ ((readyWin.window 1).enabled = true ∧ (readyWin.window 1).hold = .ready) ∧
      ((heldWin.window 1).enabled = true ∧ (heldWin.window 1).hold ≠ .ready ∧ ServiceTable heldWin ∧ ParkOrder heldWin ∧
        heldWin.engine.phase ≠ .sending) ∧
      ((nextOf (exec .release (arg heldWin 1))).service.entries.map (·.stamp)) = [none, some 1, none] := by
  unfold ServiceTable ParkOrder; decide +kernel

theorem witness_NoteCopiedOut :
    on.host.busy = false ∧ 4294967296 < (arg on 4294967249).host.argument.toNat + 48 ∧
      ((arg on 4294967248).host.argument.toNat + 48 ≤ 4294967296 ∧ on.notes.stored = []) ∧
      (rich.notes.stored = .message 2 [1] :: List.replicate 15 (.message 2 [1]) ∧
        (copyOutBytesOf (.message 2 [1])).length = 48) := by decide +kernel

/-- The last bytes of a copy-out are being written. -/
def copying : State :=
  granted { rich with copier := some ⟨64, copyOutBytesOf (.message 2 [1]), 0⟩
                      notes := { rich.notes with copying := true } }
    .copier (.write 64 (copyOutBytesOf (.message 2 [1])))

theorem witness_NoteCopiedOut_ends :
    copying.port.orphans = [] ∧ copying.drained = false ∧ copying.notes.copying = true ∧
      0 + (copyOutBytesOf (.message 2 [1])).length = (copyOutBytesOf (.message 2 [1])).length ∧
      (nextOf (exec .copyOutEnds copying)).host.result = ⟨.ok, 0x0A, 15⟩ ∧
      ({ copying with notes := .empty } : State).notes.copying = false := by decide +kernel

theorem witness_BusAndPeerReset :
    on.host.busy = false ∧ (station .joining).station.state = .joining ∧ State.reset.station.state = .offline ∧
      15 < (arg on 16).host.argument.toNat % 256 ∧ (arg on 1).host.argument.toNat % 256 = on.ownId.val ∧
      ((15 : StationId).val = (arg on 15).host.argument.toNat % 256 ∧ (15 : StationId) ≠ on.ownId) := by decide +kernel

/-- A SUSPENDED writer with the record of slot 2. -/
def suspended : State :=
  { rich with writer := ⟨.suspended, some ⟨2, false, recordBytesOf 2 (rich.slot 2), 0⟩⟩ }

theorem witness_RingRestartCommand :
    suspended.host.busy = false ∧ on.writer.state ≠ .suspended ∧ suspended.writer.state = .suspended ∧
      (recordBytesOf 2 (rich.slot 2)).length = 32 ∧
      suspended.settings.ringBase + 32 * suspended.host.producer < 4294967296 ∧
      ({ suspended with writer := ⟨.suspended, none⟩ } : State).writer.record = none := by decide +kernel

/-- Ring of 16, P at 3, C at 14. -/
def ring : State := { on with host := { on.host with producer := 3, consumer := 14 } }

theorem witness_RingConsumerMoves :
    let n := ring.settings.ringSize
    (3 < n ∧ (3 + n - ring.host.consumer) % n ≤ (ring.host.producer + n - ring.host.consumer) % n) ∧
      (15 < n ∧ (15 + n - ring.host.consumer) % n ≤ (ring.host.producer + n - ring.host.consumer) % n) ∧
      ¬ (4 + n - ring.host.consumer) % n ≤ (ring.host.producer + n - ring.host.consumer) % n ∧ ¬ 16 < n ∧
      State.reset.station.settings = none := by decide +kernel

theorem witness_EventFlags :
    Event.collision ≠ Event.ringFault ∧ (0x40 : Word).getLsbD Event.collision.bit = true ∧
      (0x40 : Word).getLsbD Event.ringFault.bit = false := by decide +kernel

theorem witness_TriggerEdgeTaken :
    (rich.triggers.levels.getLsbD 3 = false ∧ SlotLists rich) ∧
      (State.atPowerOn 8 false).triggers.levels.getLsbD 3 = true ∧ (rich.slot 15).standing = some part ∧
      ((nextOf (exec (.triggerEdge 3) rich)).slot 15).state = .queued := by
  unfold SlotLists; decide +kernel

theorem witness_BusResetTaken :
    (rich.bus.resetLine = false ∧ SlotLists rich) ∧ (State.atPowerOn 0 true).bus.resetLine = true := by
  unfold SlotLists; decide +kernel

theorem witness_LinesGapsAndView_lines :
    (State.atPowerOn 0 true).bus.resetLine = true ∧ (State.atPowerOn 0 true).bus.drivesReset = false ∧
      on.bus.resetLine = false ∧
      ((nextOf (exec (.triggerLineFalls 3) (State.atPowerOn 0xF false))).triggers.levels = 7) := by decide +kernel

/-- In a round with a want entered. -/
def inRound (w : Want) (gone : Bool) : State :=
  { view rich .contending with arb := ⟨false, false, some ⟨w, gone⟩⟩ }

theorem witness_LinesGapsAndView_view :
    (on.engine.phase = .idle ∧ on.drained = false) ∧ (view on .free).bus.view = .free ∧
      ((view on .contending).bus.view = .contending ∧ (view on .contending).arb.entered = none) ∧
      ((inRound .rollcall false).arb.entered.isSome = true ∧ (inRound .rollcall false).engine.phase = .idle ∧
        (inRound .rollcall false).drained = false) ∧
      ((view on .held).bus.holdsLine = false ∧ (view on .held).bus.view ≠ .contending) ∧
      (nextOf (exec .releaseGapExpires (view on .held))).bus.view = .free := by decide +kernel

/-- FREE with no rest gap yet; and a turn in which a frame waits. -/
def resting : State := { on with bus := { on.bus with view := .free, restGapOpen := true }, arb := ⟨true, true, none⟩ }
def turnOpen : State :=
  { on with bus := { on.bus with view := .held, turn := .theirs, outbox := [⟨link, .ack 1⟩] } }

theorem witness_LinesGapsAndView_gaps :
    (resting.bus.view = .free ∧ resting.bus.restGapOpen = true) ∧ on.bus.view ≠ .free ∧
      (turnOpen.bus.driving = none ∧ turnOpen.bus.turn = .theirs ∧ turnOpen.bus.outbox = ⟨link, .ack 1⟩ :: [] ∧
        turnOpen.bus.view = .held) ∧
      ({ turnOpen with bus := { turnOpen.bus with outbox := [] } } : State).bus.outbox = [] ∧ on.bus.turn = .none ∧
      (nextOf (exec .restGap resting)).arb = ⟨false, false, none⟩ := by decide +kernel

def calm (s : State) : State := view s .free
def withQueue (st : EntryState) : State := calm (serve on .ready [entry st] [key])
def taken (st : EntryState) : State := calm (serve on .ready [entry st] [])
def readySlot : State := { calm (put on 9 (slot .queued)) with sched := { (put on 9 (slot .queued)).sched with ready := [9] } }

theorem witness_ContendPicksWant :
    ((calm on).station.state = .online ∧ (calm on).bus.view = .free ∧ (calm on).arb.abstaining = false ∧
      (calm on).engine.phase = .idle ∧ (calm on).bus.driving = none) ∧
      on.bus.view ≠ .free ∧ ((calm (station .joining)).station.rollcallDue = false) ∧
      (∀ e ∈ (taken .resuming).service.entries, ∀ f ∈ (taken .resuming).service.entries, f.state = .resuming → f = e) ∧
      ((taken .withdrawing).entry? key = some (entry .withdrawing)) ∧
      ((withQueue .ready).service.queue = key :: [] ∧ (withQueue .ready).entry? key = some (entry .ready)) ∧
      (withQueue .withdrawDue).entry? key = some (entry .withdrawDue) ∧
      ((calm rich).arb.spent = false ∧ (put (calm on) 1 (slot .selected)).service.queue = [] ∧
        ((put (calm on) 1 (slot .selected)).slot 1).callOut = false) ∧
      (readySlot.sched.ready = 9 :: [] ∧ ∀ i, (readySlot.slot i).state ≠ .selected) ∧
      ((nextOf (exec .contend readySlot)).slot 9).state = .selected := by decide +kernel

theorem witness_ContendPicksWant_one : OneSelected (put (calm on) 1 (slot .selected)) ∧ OneSelected readySlot := by
  unfold OneSelected; decide +kernel

theorem witness_ContendPicksWant_rank :
    (inRound (.resume key) false).arb.entered = some ⟨.resume key, false⟩ ∧
      (inRound (.resume key) false).rank? = some 17 := by decide +kernel

theorem witness_RoundWonHandsOver :
    ((inRound (.connect 1) false).bus.view = .contending ∧ (inRound .rollcall false).arb.entered = some ⟨.rollcall, false⟩) ∧
      (inRound .rollcall true).arb.entered = some ⟨.rollcall, true⟩ ∧
      (inRound (.withdraw key) false).entry? key = some { entry .withdrawDue with withdrawReason := some .leaving } ∧
      ((nextOf (exec .roundWon (inRound (.connect 1) false))).bus.driving =
        some ⟨⟨1, 2, 1, 3⟩, .connect 2 1 256 600⟩) := by decide +kernel

/-! Frames received -/

def offline : State := view State.reset .held
/-- A busy Engine and a frame of another connection. -/
def other : FrameHead := ⟨3, 1, 5, 3⟩
def busyEngine : State := serving on (engine .sending .holder .initiator .write)

theorem witness_FramesDiscarded :
    offline.station.state = .offline ∧ (on.bus.view = .held ∧ (calm on).bus.view ≠ .held) ∧
      (view on .contending).bus.view ≠ .held ∧
      (busyEngine.delivers other ∧ busyEngine.engine.phase ≠ .idle ∧ busyEngine.engine.hears other = false) ∧
      (Instr.finishReceived other 1).wf = true ∧ Frame.decode [0x08, 0x12, 0x53, 0xB2, 0xD0] = none := by
  unfold State.delivers; decide +kernel

def serves (h : HoldState) : State := serve on h [] []
/-- Eight entries, none of them keyed to `key`. -/
def fullService : State :=
  serve on .ready ([0, 1, 2, 3, 4, 6, 7, 8].map fun i => { entry .connected with key := ⟨2, ⟨i, 3⟩⟩, window := 2 }) []

theorem witness_ConnectAnswered :
    ((serves .ready).delivers link ∧ (serves .ready).engine.phase = .idle ∧ (serves .ready).entry? key = none) ∧
      (station .leaving).station.state = .leaving ∧ (4 : Byte).toNat > 3 ∧ (33 : Word).toNat > 32 ∧ (8 : Byte).toNat > 7 ∧
      (on.settings.noteSenders.getLsbD link.src.val = true ∧ on.settings.noteSenders.getLsbD 3 = false) ∧
      ¬ (rich.notes.stored.length + rich.notes.reserved.toNat < 16) ∧
      (((serves .ready).window 1).writeSet.getLsbD 2 = true ∧ ((serves .ready).window 1).size < 3497 + 600 ∧
        ¬ ((serves .ready).window 1).size < 3496 + 600) ∧
      (((serves .ready).window 1).writeSet.getLsbD 3 = false ∧ (on.window 7).enabled = false) ∧
      (fullService.service.entries.length = 8 ∧ fullService.entry? key = none) ∧
      ((serves .held).window 1).hold ≠ .ready ∧
      (serve on .ready [entry .connected] []).entry? key = some (entry .connected) := by
  unfold State.delivers; decide +kernel

theorem test_connect_accepted :
    (nextOf (exec (.connectReceived link 2 1 0 600) (serves .ready))).bus.driving =
      some ⟨⟨1, 2, 5, 3⟩, .accept 0⟩ := by decide +kernel
theorem test_connect_range :
    (nextOf (exec (.connectReceived link 2 1 3497 600) (serves .ready))).bus.driving =
      some ⟨⟨1, 2, 5, 3⟩, .refuse .range⟩ := by decide +kernel

/-- This station's CONNECT or its RESUME, out and unanswered. -/
def called (op : Operation) : State :=
  serving (put on 5 { slot .selected with callOut := true, op := op })
    { engine .calling .holder .initiator op with answerTimer := some 20 }
def resumed (h : HoldState) : State :=
  serving (serve on h [entry .resuming] [])
    { engine .calling .holder .target .write with purpose := .resume, answerTimer := some 20 }

theorem witness_CallAccepted :
    let s := called .write
    (s.delivers link ∧ s.engine.hears link = true ∧ s.engine.phase = .calling ∧ s.engine.answerTimer.isSome = true ∧
      s.engine.purpose = .connect ∧ s.engine.role = .initiator ∧ (s.slot 5).state = .selected ∧
      (0 : Word).toNat ≤ Config.maxLength) ∧
      (s.engine.op ≠ .read ∧ (s.slot 5).cancelRequested = false ∧ (s.slot 5).form = .direct ∧ 0 < s.engine.length ∧
        s.engine.abortDue = none ∧ (s.slot 5).localAddr < 4294967296) ∧
      ((called .read).engine.op = .read ∧ (called .read).engine.hears link = true ∧ (called .read).delivers link) := by
  unfold State.delivers; decide +kernel

theorem witness_CallAccepted_resume :
    let s := resumed .ready
    (s.delivers link ∧ s.engine.hears link = true ∧ s.engine.phase = .calling ∧ s.engine.answerTimer.isSome = true ∧
      s.engine.purpose = .resume ∧ s.engine.role = .target ∧ s.engine.length = 600 ∧
      s.entry? s.engine.key = some (entry .resuming)) ∧ (256 : Nat) < 600 ∧ 0 < s.settings.tenureLimit ∧
      s.engine.abortDue = none ∧ (255 : Word).toNat ≠ (entry .resuming).progress ∧
      (256 : Word).toNat = (entry .resuming).progress ∧ ServiceTable s := by
  unfold State.delivers ServiceTable; decide +kernel

theorem witness_CallAccepted_holding :
    let s := resumed .holding
    s.delivers link ∧ s.engine.hears link = true ∧ s.entry? s.engine.key = some (entry .resuming) ∧
      (s.window 1).hold = .holding ∧ s.station.state = .online ∧ ServiceTable s ∧
      (nextOf (exec (.acceptReceived link 256) s)).engine.closing = some (.disconnect .held 256) := by
  unfold State.delivers ServiceTable; decide +kernel

theorem witness_CallRefused :
    let s := called .write
    let r := resumed .ready
    (s.delivers link ∧ s.engine.hears link = true ∧ s.engine.phase = .calling ∧ s.engine.answerTimer.isSome = true ∧
      s.engine.busRole = .holder ∧ (s.slot 5).state = .selected) ∧
      (r.delivers link ∧ r.engine.hears link = true ∧ r.entry? r.engine.key = some (entry .resuming) ∧
        (entry .resuming).stamp = none ∧ r.arb.entered = none ∧ r.engine.busRole = .holder) ∧
      (8 : Nat) ≤ ({ slot .selected with busyRefusals := 7 } : Slot).busyRefusals + 1 := by
  unfold State.delivers; decide +kernel

theorem test_refused_busy :
    ((nextOf (exec (.refuseReceived link 4) (called .write))).slot 5).state = .queued ∧
      (nextOf (exec (.refuseReceived link 4) (called .write))).bus.holdsLine = false := by decide +kernel

/-- A WRITE target and a NOTE target in their tenures; `q` is the sequence expected next. -/
def receiving (q : SeqNo) : State :=
  serving (serve on .ready [{ entry .connected with progress := 0 }] [])
    { engine .receiving .answering .target .write with expectedSeq := q, silenceTimer := some 80 }
def noteTarget : State :=
  { serving on { engine .receiving .answering .target .note with length := 32 } with
    notes := ⟨[], true, false⟩ }
def fullPayload : List Byte := List.replicate 256 7

theorem witness_DataTaken :
    let s := receiving 0
    (s.delivers link ∧ s.engine.hears link = true ∧ s.engine.phase = .receiving ∧ s.engine.abortDue = none) ∧
      fullPayload.length = min 256 (s.engine.length - s.receivePos) ∧ ¬ ([1] : List Byte).length = 256 ∧
      (s.engine.point = none ∧ s.moverBusy = false ∧ s.mover.buffer = none ∧ s.mover.stores = [] ∧
        s.usesList = false ∧ s.placeOf s.receivePos = .found 65536 16777216) ∧
      ((noteTarget.engine.op = .note ∧ noteTarget.notes.reserved = true) ∧ noteTarget.engine.hears link = true ∧
        (List.replicate 32 (1 : Byte)).length = min 256 (noteTarget.engine.length - noteTarget.receivePos)) ∧
      ((3 : SeqNo).val + 8 - s.engine.expectedSeq.val) % 8 = 3 ∧
      ((4 : SeqNo).val + 8 - (receiving 0).engine.expectedSeq.val) % 8 = 4 := by
  unfold State.delivers; decide +kernel

theorem witness_DataTaken_more :
    ({ (receiving 1).engine with writtenSeq := some 0 } : Engine).writtenSeq.isSome = true ∧
      ({ (receiving 0).engine with point := some DisconnectReason.held } : Engine).point.isSome = true ∧
      (granted (receiving 0) .mover (.write 65536 [1])).moverBusy = true ∧
      (receiving 0).entry? (receiving 0).engine.key = some { entry .connected with progress := 0 } ∧
      (called .read).engine.role = .initiator ∧ ((called .read).slot 5).form = .direct := by decide +kernel

theorem test_data_gap :
    (nextOf (exec (.dataReceived link 2 fullPayload) (receiving 0))).bus.driving =
      some ⟨⟨1, 2, 5, 3⟩, .nak 0⟩ := by decide +kernel

/-- A sender with two frames out, one of the initiator and one of the target. -/
def sending : State :=
  serving (put on 5 (slot .active))
    { engine .sending .holder .initiator .write with
      unacked := [sent 0 0 256, sent 1 256 256], sendPos := 512, nextSeq := 2, ackTimer := some 20 }
def readSender : State :=
  serving (serve on .ready [{ entry .connected with op := .read }] [])
    { engine .sending .answering .target .read with
      unacked := [sent 1 256 256, sent 2 512 88], sendPos := 600, nextSeq := 3, ackTimer := some 20 }

theorem witness_AckAndNakTaken :
    (sending.delivers link ∧ sending.engine.hears link = true ∧ sending.engine.phase = .sending ∧
      sending.engine.abortDue = none ∧ sending.engine.role = .initiator) ∧
      (sending.engine.unacked = [sent 0 0 256] ++ sent 1 256 256 :: [] ∧ ∀ g ∈ [sent 0 0 256], g.seq ≠ 1) ∧
      ((∀ g ∈ sending.engine.unacked, g.seq ≠ (5 : SeqNo)) ∧ (5 : SeqNo) ≠ sending.engine.nextSeq) ∧
      ((∀ g ∈ sending.engine.unacked, g.seq ≠ sending.engine.nextSeq) ∧ sending.engine.unacked ≠ []) ∧
      (readSender.delivers link ∧ readSender.engine.hears link = true ∧ readSender.engine.role = .target ∧
        readSender.engine.op = .read ∧ readSender.entry? readSender.engine.key = some { entry .connected with op := .read } ∧
        readSender.engine.length ≤ max readSender.engine.sendPos (512 + 88)) := by
  unfold State.delivers; decide +kernel

theorem test_ack_last :
    (nextOf (exec (.ackReceived link 2) readSender)).bus.driving = some ⟨⟨1, 2, 5, 3⟩, .finish 600⟩ := by decide +kernel
theorem test_nak_older :
    (nextOf (exec (.nakReceived link 1) sending)).engine.sendPos = 256 ∧
      ((nextOf (exec (.nakReceived link 1) sending)).slot 5).progress = 256 := by decide +kernel

/-- The initiator with everything sent. -/
def allSent : State := { sending with engine := { sending.engine with phase := .awaitingFinish, sendPos := 600 } }

theorem witness_FinishAndDisconnectTaken :
    (allSent.delivers link ∧ allSent.engine.hears link = true ∧ allSent.engine.phase = .awaitingFinish ∧
      allSent.engine.abortDue = none ∧ allSent.engine.role = .initiator ∧ (allSent.slot 5).state = .active) ∧
      ((600 : Word).toNat = allSent.engine.length ∧ allSent.engine.op = .write ∧ allSent.engine.sendPos = allSent.engine.length) ∧
      ¬ (1 : Word).toNat = allSent.engine.length := by
  unfold State.delivers; decide +kernel

theorem witness_FinishAndDisconnectTaken_disconnect :
    (sending.delivers link ∧ sending.engine.hears link = true ∧ sending.engine.role = .initiator ∧
      sending.engine.abortDue = none ∧ sending.engine.op ≠ .note ∧ (sending.slot 5).state = .active) ∧
      (256 ≤ sending.engine.sendPos ∧
        (sending.engine.unacked.find? fun f => f.pos + f.len = 256).isSome = true) ∧
      (0 : Nat) = (sending.slot 5).progress ∧ (sending.engine.unacked.find? fun f => f.pos + f.len = 100) = none ∧
      ((called .write).delivers link ∧ (called .write).engine.phase = .calling ∧
        (called .write).engine.answerTimer.isSome = true ∧ (called .write).engine.purpose = .connect ∧
        ((called .write).slot 5).state = .selected) := by
  unfold State.delivers; decide +kernel

theorem test_finish_done :
    ((nextOf (exec (.finishReceived link 600) allSent)).slot 5).outcome = some .done ∧
      (nextOf (exec (.finishReceived link 600) allSent)).bus.driving = some ⟨⟨1, 2, 5, 3⟩, .endConnection⟩ := by
  decide +kernel
theorem test_disconnect_waits :
    ((nextOf (exec (.disconnectReceived link 1 256) sending)).slot 5).state = .disconnected ∧
      ((nextOf (exec (.disconnectReceived link 1 256) sending)).slot 5).deadline = some 128 := by decide +kernel

/-- A target that closes. -/
def closer (h : HoldState) (c : ClosingFrame) (e : Entry) : State :=
  serving (serve on h [e] []) { engine .closing .answering .target .write with closing := some c, closeTimer := some 20 }

theorem witness_EndTaken :
    let s := closer .ready (.finish 600) (entry .connected)
    (s.delivers link ∧ s.engine.hears link = true ∧ s.engine.role = .target ∧
      s.entry? s.engine.key = some (entry .connected) ∧ s.arb.entered = none ∧ ServiceTable s) ∧
      ({ entry .connected with reservation := true } : Entry).reservation = true := by
  unfold State.delivers ServiceTable; decide +kernel

theorem witness_EndTaken_disconnect :
    let s := closer .ready (.disconnect .tenure 256) (entry .connected)
    let t := closer .held (.disconnect .held 256) (entry .connected)
    (s.delivers link ∧ s.engine.hears link = true ∧ s.entry? s.engine.key = some (entry .connected) ∧
      (s.window 1).hold = .ready) ∧
      (t.delivers link ∧ t.engine.hears link = true ∧ t.entry? t.engine.key = some (entry .connected) ∧
        (t.window 1).hold ≠ .ready ∧ t.station.state = .online) ∧
      (nextOf (exec (.endReceived link) s)).service.queue = [key] := by
  unfold State.delivers; decide +kernel

/-- A WITHDRAW out and unanswered. -/
def withdrawing : State :=
  serving (serve on .ready [{ entry .withdrawing with withdrawReason := some .parkLimit }] [])
    { engine .calling .holder .target .write with purpose := .withdraw, answerTimer := some 20, closeTimer := some 20 }

theorem witness_EndTaken_withdraw :
    withdrawing.delivers link ∧ withdrawing.engine.hears link = true ∧ withdrawing.engine.phase = .calling ∧
      withdrawing.engine.answerTimer.isSome = true ∧ withdrawing.engine.purpose = .withdraw ∧
      withdrawing.entry? withdrawing.engine.key = some { entry .withdrawing with withdrawReason := some .parkLimit } ∧
      (nextOf (exec (.endReceived link) withdrawing)).service.entries = [] := by
  unfold State.delivers; decide +kernel

/-- A DISCONNECTED slot that waits for its target. -/
def waiting : State := view (put on 5 { slot .disconnected with progress := 256, deadline := some 128 }) .held

theorem witness_ResumeAndWithdrawTaken :
    (waiting.delivers link ∧ waiting.engine.phase = .idle) ∧
      ((waiting.slot 5).state = .disconnected ∧ link.gen = (waiting.slot 5).gen ∧ link.src = (waiting.slot 5).peer) ∧
      (256 : Word).toNat = (waiting.slot 5).progress ∧ (257 : Word).toNat ≠ (waiting.slot 5).progress ∧
      ¬ (link.gen + 1 = (waiting.slot 5).gen) ∧
      (nextOf (exec (.resumeReceived link 256) waiting)).bus.driving = some ⟨⟨1, 2, 5, 3⟩, .accept 256⟩ := by
  unfold State.delivers; decide +kernel

theorem test_withdraw_ends :
    ((nextOf (exec (.withdrawReceived link 1) waiting)).slot 5).outcome = some (.withdrawn .parkLimit) := by decide +kernel

theorem witness_AbortTaken :
    (sending.delivers link ∧ sending.engine.hears link = true ∧ sending.engine.abortDue = none ∧
      sending.arb.entered = none ∧ sending.engine.phase ≠ .calling ∧ (sending.slot 5).state = .active) ∧
      ((receiving 0).delivers link ∧ (receiving 0).engine.role = .target ∧
        (receiving 0).entry? (receiving 0).engine.key = some { entry .connected with progress := 0 }) ∧
      (noteTarget.delivers link ∧ noteTarget.entry? noteTarget.engine.key = none ∧ noteTarget.engine.role = .target) ∧
      ((called .write).engine.phase = .calling ∧ (called .write).engine.hears link = true) ∧
      ((put sending 5 (slot .finished)).slot 5).state ≠ .active ∧
      ((nextOf (exec (.abortReceived link 3) sending)).slot 5).outcome = some .targetFault := by
  unfold State.delivers; decide +kernel

theorem witness_RollCallHeard :
    ((view on .held).receives = true ∧ (view on .held).ownId = 1) ∧
      ((view (station .joining) .held).receives = true ∧ (view (station .joining) .held).station.state = .joining) ∧
      (view (station .leaving) .free).receives = true ∧ (15 : StationId) ≠ on.ownId ∧
      (nextOf (exec (.presentReceived selfHead) (view (station .joining) .held))).station.cause = .idConflict := by
  decide +kernel

/-! Frames sent -/

/-- `s` while it drives the frame of its connection with body `b`. -/
def driving (s : State) (b : Body) : State := { s with bus := { s.bus with driving := some (s.connFrame b), turn := .none } }
def calling (p : Purpose) (r : ExchangeRole) : State :=
  serving (put on 5 (slot .selected)) { engine .calling .holder r .write with purpose := p }

theorem witness_FrameSentGood :
    on.bus.driving = none ∧ (driving sending (.data 7 [1])).bus.driving = some ⟨⟨1, 2, 5, 3⟩, .data 7 [1]⟩ ∧
      ((driving (station .joining) (.rollcall 7)).station.state = .joining) ∧
      (sending.connFrame (.ack 1) = ⟨⟨1, 2, 5, 3⟩, .ack 1⟩ ∧
        (calling .connect .initiator).engine.phase = .calling ∧ (calling .connect .initiator).engine.purpose = .connect ∧
        (calling .connect .initiator).engine.wantGone = false) ∧
      ((calling .resume .target).engine.purpose = .resume ∧ (calling .withdraw .target).engine.answerTimer = none) ∧
      ({ (calling .resume .target).engine with wantGone := true } : Engine).wantGone = true ∧
      withdrawing.engine.answerTimer.isSome = true := by decide +kernel

theorem test_connect_out :
    let t := nextOf (exec .frameSentGood (driving (calling .connect .initiator) (.connect 2 1 256 600)))
    (t.slot 5).callOut = true ∧ t.engine.answerTimer = some 20 ∧ t.bus.turn = .theirs := by decide +kernel

def answering (r : ExchangeRole) (op : Operation) : State :=
  serving (serve (put on 5 (slot .active)) .ready [{ entry .connected with op := op }] [])
    (engine .answering .answering r op)
def ended (b : BusRole) : State :=
  serving (put on 5 (slot .finished)) { engine .closing b .initiator .write with endSent := true }

theorem witness_FrameEndsAndCollisions_answers :
    ((driving (answering .target .write) (.accept 256)).engine.phase = .answering ∧
      (answering .target .write).engine.isSender = false ∧ (answering .target .write).entryProgress < 600 ∧
      (answering .target .write).arb.entered = none) ∧
      (answering .target .read).engine.isSender = true ∧
      ((driving (closer .ready (.finish 600) (entry .connected)) (.finish 600)).engine.phase = .closing) ∧
      ((ended .holder).engine.endSent = true ∧ (ended .holder).engine.busRole = .holder ∧
        (ended .answering).engine.busRole = .answering ∧ (ended .answering).engine.phase = .closing) := by decide +kernel

def aborting (s : State) (c : AbortCause) : State := { s with engine := { s.engine with abortDue := some c } }

theorem witness_FrameEndsAndCollisions_abort :
    ((aborting sending .cancelled).engine.abortDue = some .cancelled ∧ (aborting sending .cancelled).engine.phase ≠ .idle ∧
      ((aborting sending .cancelled).slot 5).state = .active) ∧
      ((aborting (receiving 0) (.link .offset)).engine.role = .target ∧
        (aborting (receiving 0) (.link .offset)).entry? key = some { entry .connected with progress := 0 }) ∧
      ((nextOf (exec .frameSentGood (driving (aborting sending .cancelled) (.abort .cancelled)))).slot 5).outcome =
        some .cancelled := by decide +kernel

def run (s : State) (n : Nat) : State := { s with station := { s.station with collisionRun := n } }

theorem witness_FrameEndsAndCollisions :
    ((driving sending (.data 7 [1])).station.collisionRun < 3 ∧
      (driving sending (.data 7 [1])).bus.driving = some ⟨⟨1, 2, 5, 3⟩, .data 7 [1]⟩) ∧
      ((calling .connect .initiator).engine.phase = .calling ∧ ((calling .connect .initiator).slot 5).state = .selected ∧
        4 ≤ ({ slot .selected with collisions := 3 } : Slot).collisions + 1) ∧
      (station .joining).station.state = .joining ∧
      (3 ≤ (run sending 3).station.collisionRun ∧ (run sending 3).station.state = .online) ∧
      (nextOf (exec .collisionDetected (driving (run sending 3) (.data 7 [1])))).station.cause = .idConflict ∧
      (nextOf (exec .collisionDetected (driving (run sending 2) (.data 7 [1])))).station.state = .online := by decide +kernel

/-- A sender at its turn with its next payload read, and a receiver that owes an ACK. -/
def ready : State :=
  { sending with
    bus := { sending.bus with turn := .mine }
    mover := { Mover.idle with buffer := some ⟨512, 88, List.replicate 88 9, false⟩ } }
def owes (s : State) : State :=
  { s with bus := { s.bus with turn := .either }, engine := { s.engine with writtenSeq := some 1, ackDue := true } }

theorem witness_FramesDriven :
    (ready.bus.driving = none ∧ ready.bus.turn = .mine ∧ ready.bus.view = .held) ∧ on.bus.turn = .none ∧
      (ready.engine.phase = .sending ∧ ready.engine.abortDue = none ∧ ready.stopped = false ∧
        ready.engine.unacked.length < 4 ∧ ready.engine.sendPos < ready.engine.length ∧
        (∀ g ∈ ready.engine.unacked, g.pos ≠ ready.engine.sendPos) ∧
        ready.mover.buffer = some ⟨512, 88, List.replicate 88 9, false⟩ ∧
        (88 : Nat) = min 256 (ready.engine.length - ready.engine.sendPos)) ∧
      ((owes (receiving 2)).bus.turn = .either ∧ (owes (receiving 2)).engine.ackDue = true ∧
        (owes (receiving 2)).engine.writtenSeq = some 1 ∧ (owes (receiving 2)).engine.op = .write ∧
        (owes (receiving 2)).entryProgress < (owes (receiving 2)).engine.length ∧
        (owes (receiving 2)).engine.point = none) := by decide +kernel

/-- A READ target that has decided to close and waits for its turn. -/
def decided : State :=
  { readTarget with
    bus := { readTarget.bus with turn := .theirs }
    engine := { readTarget.engine with closing := some (.disconnect .tenure 256) } }

theorem witness_FramesDriven_closes :
    (decided.bus.driving = none ∧ decided.bus.turn = .theirs ∧ decided.bus.view = .held ∧ decided.engine.phase ≠ .closing ∧
      decided.engine.ackDue = false ∧ decided.engine.role = .target ∧ decided.engine.abortDue = none ∧
      decided.bus.outbox = []) ∧
      (nextOf (exec .turnGapExpires decided)).bus.driving = some ⟨⟨1, 2, 5, 3⟩, .disconnect .tenure 256⟩ := by decide +kernel

theorem witness_FramesDriven_abort :
    ((aborting ready (.localFault .busError)).engine.abortDue = some (.localFault .busError) ∧
      (aborting ready (.localFault .busError)).engine.phase = .sending ∧
      (aborting ready (.localFault .busError)).bus.turn = .mine) ∧
      (((put ready 5 { slot .active with cancelRequested := true }).slot 5).cancelRequested = true ∧
        ready.engine.abortDue = none) ∧ on.engine.phase = .idle ∧
      (nextOf (exec .sendAbort (aborting ready (.localFault .busError)))).bus.driving =
        some ⟨⟨1, 2, 5, 3⟩, .abort .localFault⟩ := by decide +kernel

theorem test_sendData :
    (nextOf (exec .sendData ready)).bus.driving = some ⟨⟨1, 2, 5, 3⟩, .data 2 (List.replicate 88 9)⟩ := by decide +kernel
theorem test_sendAck : (nextOf (exec .sendAck (owes (receiving 2)))).bus.driving = some ⟨⟨1, 2, 5, 3⟩, .ack 1⟩ := by
  decide +kernel

theorem witness_SilenceAndRelease :
    ((receiving 0).arb.entered = none ∧ (receiving 0).engine.abortDue = none ∧
      (receiving 0).engine.silenceTimer.isSome = true ∧ (receiving 0).engine.role = .target ∧
      (receiving 0).entry? (receiving 0).engine.key = some { entry .connected with progress := 0 }) ∧
      on.engine.silenceTimer = none ∧
      ((view (receiving 0) .free).engine.busRole = .answering ∧ (view (receiving 0) .free).bus.view ≠ .held ∧
        (receiving 0).engine.phase = .receiving) ∧
      (sending.engine.role = .initiator ∧ (sending.slot 5).state = .active ∧ ((ended .answering).slot 5).state ≠ .active) ∧
      ((view (ended .answering) .free).engine.phase = .closing ∧ (ended .answering).engine.endSent = true) ∧
      ((view (closer .ready (.finish 600) (entry .connected)) .free).bus.view = .free ∧
        (closer .ready (.finish 600) (entry .connected)).engine.closing = some (.finish 600)) ∧
      (nextOf (exec .silenceTimeout (receiving 0))).service.entries = [] := by decide +kernel

/-! Timers -/

theorem witness_AnswerTimeout :
    let s := called .write
    let r := resumed .ready
    (s.engine.phase = .calling ∧ s.engine.answerTimer.isSome = true ∧ s.engine.busRole = .holder ∧
      s.arb.entered = none ∧ (s.peer 2).count + 1 < 3 ∧ s.engine.purpose = .connect ∧ (s.slot 5).state = .selected) ∧
      (s.setPeer 2 ⟨.silent, 3⟩).peer 2 = ⟨.silent, 3⟩ ∧
      (r.engine.purpose ≠ .connect ∧ r.entry? r.engine.key = some (entry .resuming) ∧ r.engine.key ∉ r.service.queue ∧
        (r.window 1).hold = .ready ∧ (entry .resuming).noAnswers + 1 < 3 ∧
        3 ≤ ({ entry .resuming with noAnswers := 2 } : Entry).noAnswers + 1) ∧
      ((nextOf (exec .answerTimeout s)).slot 5).noAnswers = 1 := by decide +kernel

/-- The third no-answer is due, with a QUEUED slot to the same peer. -/
def fading : State :=
  { put ((called .write).setPeer 2 ⟨.present, 2⟩) 0 (slot .queued) with
    sched := { (put (called .write) 0 (slot .queued)).sched with ready := [0] } }

theorem witness_PeerGoesSilent :
    (fading.engine.phase = .calling ∧ fading.engine.answerTimer.isSome = true ∧ fading.engine.purpose = .connect) ∧
      (fading.slot 5).state = .selected ∧ (fading.slot 5).peer = 2 ∧ (fading.peer 2).state ≠ .silent ∧
      (fading.peer 2).count = 2 ∧ fading.station.state = .online ∧ (fading.slot 0).state = .queued ∧
      SlotLists fading ∧ OneSelected fading ∧
      ((nextOf (exec .answerTimeout fading)).slot 0).outcome = some .peerSilent := by
  unfold SlotLists OneSelected; decide +kernel

theorem witness_AckAndCloseTimeout :
    on.engine.ackTimer = none ∧ (sending.engine.ackTimer.isSome = true ∧ sending.engine.phase = .sending ∧
      sending.engine.abortDue = none ∧ sending.engine.unacked = sent 0 0 256 :: [sent 1 256 256]) ∧
      3 ≤ ({ sent 0 0 256 with retries := 3 } : SentFrame).retries ∧
      (nextOf (exec .ackTimeout sending)).engine.sendPos = 0 := by decide +kernel

theorem witness_AckAndCloseTimeout_close :
    let s := closer .ready (.finish 600) (entry .connected)
    (s.engine.phase = .closing ∧ s.engine.closing = some (.finish 600) ∧ s.engine.closeTimer.isSome = true ∧
      s.engine.closeRetries < 3 ∧ s.arb.entered = none ∧ s.entry? s.engine.key = some (entry .connected)) ∧
      3 ≤ ({ s.engine with closeRetries := 3 } : Engine).closeRetries ∧
      ({ s.engine with closeTimer := none } : Engine).closeTimer = none ∧
      (nextOf (exec .closeTimeout s)).bus.outbox = [⟨⟨1, 2, 5, 3⟩, .finish 600⟩] := by decide +kernel

def joining : State :=
  { station .joining with station := { (station .joining).station with rollcallTimer := some 20 } }

theorem witness_DeadlinesExpire :
    ((waiting.slot 5).state = .disconnected ∧ (waiting.slot 5).deadline.isSome = true ∧ (on.slot 15).state ≠ .disconnected) ∧
      (heldWin.entry? ⟨2, ⟨0, 3⟩⟩ = some (parked 1 0) ∧ (parked 1 0).state = .parked ∧ (parked 1 0).parkTimer.isSome = true ∧
        (parked 1 0).stamp = some 1 ∧ (⟨2, ⟨0, 3⟩⟩ : Key) ∉ heldWin.service.queue) ∧
      (on.entry? key = none ∧ (serve on .ready [entry .ready] [key]).entry? key = some (entry .ready)) ∧
      (joining.station.state = .joining ∧ joining.station.rollcallTimer.isSome = true ∧ on.station.rollcallTimer = none) ∧
      ((nextOf (exec (.parkTimerExpires 2 0 3) heldWin)).service.entries.map (·.stamp)) = [none, some 1, some 2] ∧
      (nextOf (exec .rollcallTimerExpires joining)).station.state = .online := by decide +kernel

/-! Local Port and records -/

def orphaned (t : Transaction) : State := { on with port := ⟨none, [], [t]⟩ }
def dropped (s : State) : State :=
  { s with port := { s.port with current := s.port.current.map fun g => { g with state := .discarded } } }

theorem witness_LocalTransactions :
    (on.port.current = none ∧ on.port.orphans = []) ∧
      ((orphaned (.write 64 [1])).port.orphans = .write 64 [1] :: [] ∧ (orphaned (.read 64 4)).port.orphans = .read 64 4 :: []) ∧
      (dropped (granted on .mover (.write 64 [1]))).port.current = some ⟨.mover, .write 64 [1], .discarded⟩ ∧
      (({ granted rich .copier (.write 60 [1, 2, 3, 4]) with
            copier := some ⟨60, List.replicate 48 1, 0⟩ } : State).drained = false ∧
        (0 : Nat) + ([1, 2, 3, 4] : List Byte).length < 48) ∧
      (nextOf (exec (.localTransactionEnds []) (orphaned (.write 64 [1])))).mem = [(64, 1)] := by decide +kernel

theorem test_grant_order :
    (Port.grantNext ⟨none, [(.loader, .read 0 4), (.writer, .read 4 4), (.writer, .read 8 4)], []⟩).current =
      some ⟨.writer, .read 4 4, .running⟩ := by decide +kernel

def loading (k : LoadKind) : State :=
  { granted (put on 0 { Slot.blank 4 with state := .loading }) .loader (.read 64 32) with
    loader := some ⟨k, 64, [], false⟩, host := { on.host with busy := true } }

theorem witness_LocalFaults :
    (on.port.orphans = [] ∧ (granted sending .mover (.read 64 4)).drained = false ∧ sending.engine.abortDue = none) ∧
      (granted sending .walker (.read 64 8)).port.current = some ⟨.walker, .read 64 8, .running⟩ ∧
      suspended.writer.record = some ⟨2, false, recordBytesOf 2 (rich.slot 2), 0⟩ ∧
      copying.port.current = some ⟨.copier, .write 64 (copyOutBytesOf (.message 2 [1])), .running⟩ ∧
      ((loading (.descriptor 0)).loader = some ⟨.descriptor 0, 64, [], false⟩ ∧ ((loading (.descriptor 0)).slot 0).state = .loading ∧
        (loading (.descriptor 0)).station.state ≠ .leaving) ∧
      (loading .config).loader = some ⟨.config, 64, [], false⟩ ∧
      (nextOf (exec .localBusError (loading (.descriptor 0)))).host.result = ⟨.localFault, 0x05, 1⟩ := by decide +kernel

def onceBytes : List Byte := [2, 2, 1, 1, 0] ++ descriptorBytes.drop 5

theorem witness_DescriptorLoadEnds :
    ((loading (.descriptor 0)).port.orphans = [] ∧
      (loading (.descriptor 0)).port.current = some ⟨.loader, .read 64 32, .running⟩ ∧ ([] : List Byte).length + 32 = 32 ∧
      descriptorBytes.length = 32 ∧ (loading (.descriptor 0)).station.state = .online) ∧
      (parseDescriptor (0 :: descriptorBytes.drop 1)).failing? 1 = some 1 ∧
      ((parseDescriptor descriptorBytes).failing? 1 = none ∧ (parseDescriptor descriptorBytes).standing = true) ∧
      ((parseDescriptor onceBytes).failing? 1 = none ∧ (parseDescriptor onceBytes).standing = false) ∧
      (((loading (.descriptor 0)).setPeer 2 ⟨.silent, 3⟩).peer 2).state = .silent ∧
      ((nextOf (exec (.descriptorLoadEnds onceBytes) (loading (.descriptor 0)))).slot 0).gen = 5 := by decide +kernel

theorem witness_DescriptorLoadEnds_lists : SlotLists ((loading (.descriptor 0)).setPeer 2 ⟨.silent, 3⟩) := by
  unfold SlotLists; decide +kernel

/-- The last 32 bytes of a configuration block are being read. -/
def configuring : State :=
  { granted (station .configuring) .loader (.read 192 32) with loader := some ⟨.config, 64, configBytes.take 128, false⟩ }

theorem witness_ConfigLoadEnds :
    (configuring.port.orphans = [] ∧ configuring.port.current = some ⟨.loader, .read 192 32, .running⟩ ∧
      (configBytes.take 128).length + 32 = 160 ∧ (configBytes.drop 128).length = 32 ∧
      configuring.station.state = .configuring) ∧
      (parseConfig (16 :: configBytes.drop 1)).failing? = some 1 ∧ (parseConfig configBytes).failing? = none ∧
      (nextOf (exec (.configLoadEnds (configBytes.drop 128)) configuring)).station.state = .joining := by decide +kernel

/-- A payload being read, a payload being stored, a segment entry being fetched. -/
def reads (discard : Bool) : State :=
  granted { sending with mover := { Mover.idle with buffer := some ⟨512, 88, List.replicate 84 9, discard⟩ } }
    .mover (.read 100 4)
def stores (s : State) : State :=
  granted { s with mover := { Mover.idle with stores := [⟨0, 0, [1, 2, 3, 4], 0⟩] } } .mover (.write 65536 [1, 2, 3, 4])
def fetches : State :=
  granted { put sending 5 { slot .active with form := .list, segments := 2 } with
    mover := { Mover.idle with fetch := some ⟨1, []⟩ } } .walker (.read 72 8)

theorem witness_MoverEnds :
    (((reads false).port.orphans = [] ∧ (reads false).drained = false ∧ (List.replicate 84 (9 : Byte)).length + 4 = 88) ∧
      ((put (reads true) 5 { slot .active with cancelRequested := true }).stopped = true ∧
        (reads true).engine.resend? = none)) ∧
      ((stores (receiving 1)).mover.stores = [⟨0, 0, [1, 2, 3, 4], 0⟩] ∧ (stores (receiving 1)).mover.buffer = none ∧
        (stores (receiving 1)).usesList = false ∧ (stores (receiving 1)).engine.role = .target) ∧
      ((stores (called .read)).engine.role = .initiator ∧ ((called .read).slot 5).form = .direct) ∧
      (fetches.mover.fetch = some ⟨1, []⟩ ∧ (0 : Nat) + 8 = 8) ∧
      (nextOf (exec .payloadStoreEnds (stores (receiving 1)))).mem = [(65536, 1), (65537, 2), (65538, 3), (65539, 4)] := by
  decide +kernel

theorem test_fetch :
    (nextOf (exec (.segmentEntryFetched [0x00, 0x20, 0, 0, 0xFF, 0xFF, 0, 0]) fetches)).mover.cache =
      some ⟨1, 8192, 65536⟩ := by decide +kernel

/-- The record of slot 2 is being written; `more` with a standing part. -/
def recording (more : Bool) : State :=
  let x := if more then { slot .finished with standing := some part } else slot .finished
  granted { put rich 2 x with writer := ⟨.running, some ⟨2, more, recordBytesOf 2 x, 28⟩⟩ } .writer (.write 4124 [0, 0, 0, 0])

theorem witness_CompletionWriter :
    (rich.writer.state = .running ∧ rich.writer.record = none ∧ rich.sched.finished = 2 :: [] ∧
      (rich.host.producer + 16 - rich.host.consumer) % 16 + 1 < 16 ∧ rich.settings.ringBase + 32 * 0 < 4294967296 ∧
      (recordBytesOf 2 (rich.slot 2)).length = 32) ∧
      on.sched.finished = [] ∧ ¬ ((15 + 16 - 0) % 16 + 1 < 16) ∧
      ((recording false).port.orphans = [] ∧ 28 + 4 = (recordBytesOf 2 (rich.slot 2)).length ∧
        ((recording false).slot 2).state = .finished) ∧
      (((recording true).slot 2).standing = some part ∧ (recording true).sched.ready.erase 2 = (recording true).sched.ready) ∧
      ((nextOf (exec .completionRecordWritten (recording true))).slot 2).state = .armed ∧
      ((nextOf (exec .completionRecordWritten (recording false))).slot 2).state = .free := by decide +kernel

theorem witness_DrainComplete :
    let s := station .leaving
    (s.station.state = .leaving ∧ (∀ i, (s.slot i).state = .free) ∧ s.service.entries = [] ∧ s.engine.phase = .idle) ∧
      on.station.state ≠ .leaving ∧ (nextOf (exec .drainComplete s)).station.cause = .drained := by decide +kernel


/-! ### Witnesses of the clauses about work under way -/

/-- The invariant of the Engine's work, met in a tenure. -/
theorem sending_work : ExchangeWork sending where
  entered := nofun
  idle := fun h => absurd h (by decide +kernel)
  within := by decide +kernel
  gone := by decide +kernel
  calls := by decide +kernel
  target := fun _ h => absurd h (by decide +kernel)
  initiator := fun _ =>
    ⟨fun h => absurd h (by decide +kernel), fun _ => by decide +kernel⟩

theorem witness_ProgressBounded :
    (SlotLists sending ∧ OneSelected sending ∧ ServiceTable sending ∧ ProgressBound sending) ∧ ExchangeWork sending ∧
      completes (step sending) = true := by
  refine ⟨?_, sending_work, by decide +kernel⟩
  unfold SlotLists OneSelected ServiceTable ProgressBound; decide +kernel

/-- The Engine calls for the SELECTED slot 5. -/
def callOf : State := calling .connect .initiator

theorem witness_LeaveCommand_call :
    (callOf.host.busy = false ∧ callOf.station.state = .online ∧ SlotLists callOf ∧ OneSelected callOf ∧
      ServiceTable callOf ∧ ParkOrder callOf) ∧
      ((callOf.slot 5).state = .selected ∧ (callOf.slot 5).callOut = false ∧ callOf.engine.phase = .calling ∧
        callOf.engine.purpose = .connect ∧ callOf.engine.tag.slot = 5 ∧ callOf.bus.driving = none) ∧
      (driving callOf (.connect 2 1 256 600)).bus.driving ≠ none ∧ rich.engine.phase ≠ .calling ∧
      (nextOf (exec .leave callOf)).engine = .idle ∧
      (nextOf (exec .leave (driving callOf (.connect 2 1 256 600)))).engine.wantGone = true := by
  unfold SlotLists OneSelected ServiceTable ParkOrder; decide +kernel

theorem witness_CancelCommand_call :
    let s := arg callOf 0x305
    (s.host.busy = false ∧ s.host.argument.toNat % 256 = (5 : SlotId).val ∧
      s.host.argument.toNat / 256 % 16 = (s.slot 5).gen.val ∧ (s.slot 5).state = .selected ∧ (s.slot 5).callOut = false ∧
      s.engine.phase = .calling ∧ s.engine.purpose = .connect ∧ s.engine.tag.slot = 5 ∧ s.bus.driving = none) ∧
      (nextOf (exec .cancel s)).engine = .idle ∧
      (nextOf (exec .cancel (driving s (.connect 2 1 256 600)))).engine.wantGone = true := by decide +kernel

/-- A complete READ target, and one with a frame outstanding. -/
def readDone : State := { readTarget with engine := { readTarget.engine with sendPos := 600 } }
def readOut : State := { readTarget with engine := { readTarget.engine with unacked := [sent 0 0 256] } }

theorem witness_HoldCommand_complete :
    let s := { arg readDone 1 with bus := { readDone.bus with turn := .mine } }
    (s.engine.length ≤ s.engine.sendPos ∧ s.engine.unacked = [] ∧ s.engine.closing = none ∧ s.engine.ackDue = false ∧
      s.bus.driving = none ∧ s.bus.turn = .mine ∧ s.bus.view = .held ∧ s.bus.outbox = []) ∧
      (nextOf (exec .hold s)).bus.driving = some ⟨⟨1, 2, 5, 3⟩, .finish 600⟩ ∧
      readDone.bus.turn = .none ∧ readOut.engine.unacked ≠ [] ∧
      (nextOf (exec .hold (arg readOut 1))).engine.closing = none := by decide +kernel

/-- A READ target that a hold has stopped with a frame outstanding. -/
def heldSender : State :=
  serving (serve on .holding [{ entry .connected with op := .read }] [])
    { engine .sending .answering .target .read with unacked := [sent 1 256 256], sendPos := 512, nextSeq := 2 }

theorem witness_ReleaseCommand_goes_on :
    let s := arg heldSender 1
    ((s.window 1).enabled = true ∧ (s.window 1).hold ≠ .ready ∧ ServiceTable s ∧ ParkOrder s) ∧
      (s.entry? s.engine.key = some { entry .connected with op := .read } ∧ s.engine.role = .target ∧
        s.engine.op = .read ∧ s.engine.phase = .sending ∧ s.engine.abortDue = none ∧ s.engine.closing = none ∧
        s.engine.tenureCount < s.settings.tenureLimit ∧ s.engine.unacked.length < 4 ∧
        s.engine.sendPos < s.engine.length ∧ (∀ f ∈ s.engine.unacked, f.pos ≠ s.engine.sendPos) ∧
        s.mover.buffer = none ∧ s.moverBusy = false ∧ (s.window 1).base + 0 + s.engine.sendPos < 4294967296) ∧
      (nextOf (exec .release s)).port.current = some ⟨.mover, .read 66048 64, .running⟩ := by
  unfold ServiceTable ParkOrder; decide +kernel

theorem witness_EventEnable :
    completes (exec .softReset rich) = true ∧ completes (exec (.powerOn 3 true) rich) = true ∧
      (nextOf (exec .leave rich)).flag .commandDone = true ∧
      ({ on with host := { on.host with event := 0x40, enable := 0x40 } } : State).irq = true := by decide +kernel

theorem witness_RegisterAccess :
    State.reset.station.settings = none ∧
      (on.station.settings = some cfg ∧ cfg.ringBase < 4294967296 ∧ cfg.ringSize ≤ 1024) ∧
      on.host.producer < 1024 ∧ on.host.consumer < 1024 ∧ on.readRegister 0x20 = some 4096 ∧
      on.readRegister 0x24 = some 16 := by decide +kernel

theorem witness_LinesGapsAndView_joins :
    nextOf (exec .contend readySlot) ≠ readySlot ∧ nextOf (exec .contend (calm on)) = calm on ∧
      (nextOf (exec .roundBegins readySlot)).arb.entered = some ⟨.connect 9, false⟩ ∧
      (nextOf (exec .roundBegins (calm on))).bus.view = .contending := by decide +kernel

theorem witness_LinesGapsAndView_closing :
    (decided.bus.driving = none ∧ decided.bus.turn = .theirs ∧ decided.bus.view = .held ∧ decided.bus.outbox = []) ∧
      (let s := { turnOpen with engine := (aborting sending .cancelled).engine }
      s.bus.outbox = ⟨link, .ack 1⟩ :: [] ∧ (Body.ack 1).isRollCall = false ∧ s.abortCause? ≠ none) ∧
      ¬ ((view turnOpen .contending).bus.view = .held ∨ (view turnOpen .contending).bus.view = .free) := by
  decide +kernel

/-- In a round with this want, everything else as in `s`. -/
def contends (s : State) (w : Want) : State :=
  { view s .contending with arb := ⟨false, false, some ⟨w, false⟩⟩ }

theorem witness_RoundLost :
    (contends (station .joining) .rollcall).bus.view = .contending ∧
      (let s := contends { station .joining with station := { (station .joining).station with rollcallDue := true } } .rollcall
      s.arb.abstaining = false ∧ s.engine.phase = .idle ∧ s.bus.driving = none ∧ s.station.state = .joining ∧
        s.station.rollcallDue = true) ∧
      (let s := contends (taken .resuming) (.resume key)
      (∀ f ∈ s.service.entries, f.state = .resuming ∨ f.state = .withdrawing → f = entry .resuming) ∧
        entry .resuming ∈ s.service.entries ∧ s.station.state = .online) ∧
      entry .withdrawing ∈ (contends (taken .withdrawing) (.withdraw key)).service.entries ∧
      (let s := contends (put on 1 (slot .selected)) (.connect 1)
      s.arb.spent = false ∧ s.service.queue = [] ∧ OneSelected s ∧ (s.slot 1).state = .selected ∧
        (s.slot 1).callOut = false) ∧
      ((withQueue .ready).service.queue = key :: [] ∧ (withQueue .ready).entry? key = some (entry .ready) ∧
        ∀ f ∈ (withQueue .ready).service.entries, f.state ≠ .resuming ∧ f.state ≠ .withdrawing) := by
  unfold OneSelected; decide +kernel

theorem witness_FramesDiscarded_empty : BufferEmpty offline ∧ BufferEmpty (view on .contending) := by
  unfold BufferEmpty; decide +kernel

/-- An ACCEPT on a HOLDING window whose other CONNECTED entry keeps it HOLDING. -/
def resumedKept : State :=
  let s := resumed .holding
  { s with service := { s.service with
      entries := s.service.entries ++ [{ entry .connected with key := ⟨3, ⟨0, 0⟩⟩ }] } }

theorem witness_CallAccepted_kept :
    (resumedKept.delivers link ∧ resumedKept.entry? resumedKept.engine.key = some (entry .resuming) ∧
      ServiceTable resumedKept ∧ ∃ f ∈ resumedKept.service.entries, f.key ≠ key ∧ f.window = 1 ∧ f.state = .connected) ∧
      ((nextOf (exec (.acceptReceived link 256) resumedKept)).window 1).hold = .holding ∧
      ((nextOf (exec (.acceptReceived link 256) (resumed .holding))).window 1).hold = .held := by
  unfold State.delivers ServiceTable; decide +kernel

/-- A transaction of the mover is in progress when the call is accepted. -/
theorem witness_CallAccepted_busy :
    let s := granted (called .write) .mover (.read 64 64)
    (s.delivers link ∧ s.engine.hears link = true ∧ s.port.current = some ⟨.mover, .read 64 64, .running⟩) ∧
      (nextOf (exec (.acceptReceived link 0) s)).port.waiting = [] := by
  unfold State.delivers; decide +kernel

/-- A reader into a segment list of `n` entries, with the walker's entry `c`. -/
def listReader (n : Nat) (c : Option Segment) : State :=
  serving
    { put on 5 { slot .active with op := .read, form := .list, segments := n } with mover := { Mover.idle with cache := c } }
    { engine .receiving .holder .initiator .read with silenceTimer := some 80 }

theorem witness_DataTaken_list :
    let s := listReader 2 (some ⟨0, 8192, 100⟩)
    (s.delivers link ∧ s.engine.hears link = true ∧ s.engine.phase = .receiving ∧ s.engine.abortDue = none ∧
      s.engine.point = none ∧ s.engine.closing = none ∧ s.moverBusy = false ∧ s.mover.buffer = none ∧
      s.mover.stores = [] ∧ s.usesList = true ∧ fullPayload.length = min 256 (s.engine.length - s.receivePos)) ∧
      s.placeOf s.receivePos = .found 8192 100 ∧
      (listReader 2 none).placeOf 0 = .fetch 0 ∧ (listReader 0 none).placeOf 0 = .short ∧
      (listReader 2 (some ⟨1, 0, 1⟩)).placeOf 0 = .fetch 0 ∧
      (nextOf (exec (.dataReceived link 0 fullPayload) (listReader 0 none))).engine.abortDue =
        some (.localFault .segmentShort) := by
  unfold State.delivers; decide +kernel

/-- A complete WRITE target that has decided on FINISH and still hears a duplicate. -/
def closes (s : State) : State := { s with engine := { s.engine with closing := some (.finish 600) } }

theorem witness_DataTaken_closing :
    (closes (receiving 0)).engine.closing ≠ none ∧ (closes (receiving 0)).engine.hears link = true ∧
      (noteTarget.engine.role = .target ∧ ({ noteTarget with notes := .empty } : State).notes.reserved = false) ∧
      (let s := closes { receiving 1 with engine := { (receiving 1).engine with writtenSeq := some 0 } }
      (nextOf (exec (.dataReceived link 0 fullPayload) s)).engine.ackDue = true) := by decide +kernel

/-- A READ target whose first frame is out, at its tenure limit and on a HOLDING window. -/
def oneOut (h : HoldState) (n : Nat) : State :=
  serving (serve on h [{ entry .connected with op := .read, progress := 0 }] [])
    { engine .sending .answering .target .read with
      unacked := [sent 0 0 256], sendPos := 256, nextSeq := 1, ackTimer := some 20, tenureCount := n }

theorem witness_AckAndNakTaken_closes :
    let s := oneOut .ready 2
    (s.delivers link ∧ s.engine.hears link = true ∧ s.engine.closing = none ∧
      s.entry? s.engine.key = some { entry .connected with op := .read, progress := 0 } ∧
      s.settings.tenureLimit ≤ s.engine.tenureCount ∧ s.engine.unacked = [] ++ sent 0 0 256 :: []) ∧
      (nextOf (exec (.ackReceived link 0) s)).engine.closing = some (.disconnect .tenure 256) ∧
      (nextOf (exec (.ackReceived link 0) (oneOut .holding 1))).engine.closing = some (.disconnect .held 256) ∧
      (nextOf (exec (.ackReceived link 0) (oneOut .ready 1))).engine.closing = none ∧
      (nextOf (exec (.nakReceived link 0) s)).engine.sendPos = 0 ∧
      3 ≤ ({ sent 0 0 256 with retries := 3 } : SentFrame).retries ∧
      (readSender.engine.length ≤ readSender.engine.unacked.getLast?.elim 0 fun g => g.pos + g.len) := by
  unfold State.delivers; decide +kernel

theorem witness_EndTaken_held :
    let t := closer .holding (.disconnect .held 256) (entry .connected)
    ServiceTable t ∧ ¬ (t.window 1).hold = .ready ∧ ServiceTable withdrawing ∧
      ServiceTable (closer .ready (.disconnect .tenure 256) (entry .connected)) := by
  unfold ServiceTable; decide +kernel

theorem witness_AbortTaken_faulted :
    (aborting sending (.localFault .busError)).engine.abortDue = some (.localFault .busError) ∧
      (aborting sending (.localFault .busError)).engine.hears link = true ∧
      ((nextOf (exec (.abortReceived link 1) (aborting sending (.localFault .busError)))).slot 5).state = .active := by
  decide +kernel

theorem witness_FrameSentGood_ended :
    (driving on .endConnection).engine.phase = .idle ∧ Body.endConnection.isRollCall = false ∧
      sending.engine.phase ≠ .idle ∧ (⟨other, .endConnection⟩ : Frame) ≠ sending.connFrame .endConnection := by decide +kernel

/-- A WRITE target whose stores have ended, with `p` bytes written and the disconnect point `r`. -/
def stored (p : Nat) (r : Option DisconnectReason) : State :=
  serving (serve on .ready [{ entry .connected with progress := p }] [])
    { engine .receiving .answering .target .write with writtenSeq := some 1, point := r }

theorem witness_FrameEndsAndCollisions_ack :
    (let s := driving (stored 600 none) (.ack 1)
    (s.arb.entered = none ∧ s.engine.phase = .receiving ∧ s.engine.role = .target ∧ s.engine.closing = none ∧
      s.engine.abortDue = none ∧ s.mover.stores = [] ∧ s.engine.ackDue = false ∧ s.engine.op = .write ∧
      s.engine.length ≤ s.entryProgress ∧ s.station.collisionRun < 3) ∧
      (nextOf (exec .frameSentGood s)).engine.closing = some (.finish 600) ∧
      (nextOf (exec .collisionDetected s)).engine.closing = some (.finish 600)) ∧
      ((stored 256 (some .tenure)).entryProgress < 600 ∧
        (nextOf (exec .frameSentGood (driving (stored 256 (some .tenure)) (.ack 1)))).engine.closing =
          some (.disconnect .tenure 256)) ∧
      ((stored 256 none).engine.point = none ∧ (stored 256 none).engine.op = .write) ∧
      (noteTarget.engine.op = .note ∧ noteTarget.mover.stores = [] ∧ noteTarget.engine.closing = none) ∧
      (listReader 1 none).engine.role = .initiator := by decide +kernel

theorem witness_FrameEndsAndCollisions_closing :
    (nextOf (exec .frameSentGood (driving decided (.disconnect .tenure 256)))).engine.phase = .closing ∧
      (decided.engine.closing.isSome = true ∧ decided.engine.phase = .sending) ∧
      ((aborting noteTarget (.link .offset)).entry? noteTarget.engine.key = none ∧
        ((aborting callOf (.link .offset)).slot 5).state ≠ .active) ∧
      ((calling .resume .target).engine.purpose = .resume ∧ (calling .withdraw .target).engine.answerTimer = none ∧
        withdrawing.engine.answerTimer.isSome = true ∧ withdrawing.engine.phase = .calling) ∧
      ({ callOf.engine with wantGone := true } : Engine).wantGone = true := by decide +kernel

/-- A sender that has gone back to its second frame, read again. -/
def again : State :=
  { ready with
    engine := { ready.engine with sendPos := 256 }
    mover := { Mover.idle with buffer := some ⟨256, 256, fullPayload, false⟩ } }

theorem witness_FramesDriven_again :
    (again.bus.driving = none ∧ again.bus.turn = .mine ∧ again.engine.unacked = [sent 0 0 256] ++ sent 1 256 256 :: [] ∧
      (∀ y ∈ [sent 0 0 256], y.pos ≠ again.engine.sendPos) ∧ (sent 1 256 256).retries < 3 ∧ fullPayload.length = 256) ∧
      (nextOf (exec .sendData again)).bus.driving = some ⟨⟨1, 2, 5, 3⟩, .data 1 fullPayload⟩ ∧
      (nextOf (exec .sendData again)).engine.unacked.map (·.retries) = [0, 1] ∧
      ((aborting ready (.link .offset)).engine.abortDue ≠ none ∧
        (put ready 5 { slot .active with cancelRequested := true }).ownSlot.cancelRequested = true ∧
        (put ready 5 { slot .active with cancelRequested := true }).ownSlot.state = .active) ∧
      (nextOf (exec .sendData (put ready 5 { slot .active with cancelRequested := true }))).bus.driving = none := by
  decide +kernel

theorem witness_SilenceAndRelease_answering :
    let s := view (answering .target .write) .free
    s.engine.busRole = .answering ∧ s.bus.view ≠ .held ∧ s.engine.phase = .answering ∧ s.arb.entered = none ∧
      s.engine.abortDue = none := by decide +kernel

theorem witness_PeerGoesSilent_owner :
    (fading.slot 5).noAnswers + 1 < 3 ∧ (nextOf (exec .answerTimeout fading)).sched.finished = [0, 5] ∧
      (let s := put fading 5 { slot .selected with callOut := true, noAnswers := 2 }
      SlotLists s ∧ OneSelected s ∧ 3 ≤ (s.slot 5).noAnswers + 1 ∧
        (nextOf (exec .answerTimeout s)).sched.finished = [5, 0] ∧
        ((nextOf (exec .answerTimeout s)).slot 5).outcome = some .noAnswer) := by
  unfold SlotLists OneSelected; decide +kernel

theorem witness_AckAndCloseTimeout_withdraw :
    (withdrawing.engine.closeTimer.isSome = true ∧ withdrawing.engine.closeRetries < 3 ∧
      withdrawing.engine.phase = .calling ∧ withdrawing.engine.purpose = .withdraw ∧
      withdrawing.entry? withdrawing.engine.key = some { entry .withdrawing with withdrawReason := some .parkLimit }) ∧
      (nextOf (exec .closeTimeout withdrawing)).bus.outbox = [⟨⟨1, 2, 5, 3⟩, .withdraw .parkLimit⟩] ∧
      (let s := { withdrawing with engine := { withdrawing.engine with closeRetries := 3 } }
      s.arb.entered = none ∧ (nextOf (exec .closeTimeout s)).service.entries = []) ∧
      (let s := closer .ready (.disconnect .tenure 256) (entry .connected)
      s.engine.closing = some (.disconnect .tenure 256) ∧ (s.window 1).hold = .ready ∧ s.engine.key ∉ s.service.queue) := by
  decide +kernel

theorem witness_LocalTransactions_behind :
    let s := dropped (granted (reads false) .mover (.read 64 4))
    (s.port.orphans = [] ∧ s.drained = false ∧ s.port.current = some ⟨.mover, .read 64 4, .discarded⟩ ∧
      s.port.waiting = [] ∧ s.mover.fetch = none ∧ s.usesList = false ∧
      s.mover.buffer = some ⟨512, 88, List.replicate 84 9, false⟩ ∧ s.placeOf 596 = .found 660 16777216) ∧
      (nextOf (exec .localBusError s)).port.current = some ⟨.mover, .read 660 4, .running⟩ ∧
      (granted on .writer (.read 0 4)).port.current ≠ none ∧ on.port.current = none := by decide +kernel

theorem witness_LocalFaults_stopped :
    let s := { loading (.descriptor 0) with loader := some ⟨.descriptor 0, 64, [], true⟩ }
    (s.port.current = some ⟨.loader, .read 64 32, .running⟩ ∧ (s.slot 0).state = .loading ∧ descriptorBytes.length = 32) ∧
      (nextOf (exec (.localTransactionEnds descriptorBytes) s)).host.result = ⟨.notOnline, 0x05, 0⟩ ∧
      ((nextOf (exec .localBusError s)).slot 0).state = .free := by decide +kernel

/-- A payload being read from a segment list of `n` entries, `o` bytes into the cached first one. -/
def listReads (n o : Nat) : State :=
  granted { put sending 5 { slot .active with form := .list, segments := n } with
    mover := { Mover.idle with
      buffer := some ⟨512, 88, [], false⟩, working := ⟨0, o⟩, cache := some ⟨0, 8192, 100⟩ } } .mover (.read 8192 4)

theorem witness_MoverEnds_list :
    ((listReads 2 0).port.orphans = [] ∧ (listReads 2 0).drained = false ∧ (listReads 2 0).usesList = true ∧
      (listReads 2 0).mover.fetch = none ∧ (listReads 2 0).engine.abortDue = none ∧ (listReads 2 0).port.waiting = [] ∧
      (0 : Nat) + 4 < 88) ∧
      (nextOf (exec (.localTransactionEnds [1, 2, 3, 4]) (listReads 2 0))).port.current =
        some ⟨.mover, .read 8196 60, .running⟩ ∧
      (nextOf (exec (.localTransactionEnds [1, 2, 3, 4]) (listReads 2 96))).port.current =
        some ⟨.walker, .read 72 8, .running⟩ ∧
      (nextOf (exec (.localTransactionEnds [1, 2, 3, 4]) (listReads 1 96))).engine.abortDue =
        some (.localFault .segmentShort) := by decide +kernel

/-! ### Witnesses of the clauses about a cause that stands, a frame that comes again and a payload in pieces -/

/-- The ACTIVE slot 5 in a tenure that a local fault has settled. -/
def faulted : State := aborting sending (.localFault .busError)

theorem witness_BusResetTaken_faulted :
    (faulted.bus.resetLine = false ∧ faulted.engine.role = .initiator ∧ SlotLists faulted) ∧
      ((nextOf (exec .resetLineAsserted sending)).slot 5).outcome = some .busReset ∧
      ((nextOf (exec .resetLineAsserted faulted)).slot 5).outcome = some .busReset := by
  unfold SlotLists; decide +kernel

theorem witness_ContendPicksWant_leaving :
    (let s := { readySlot with station := { readySlot.station with state := .leaving } }
    s.station.state = .leaving ∧ s.bus.view = .free ∧ s.engine.phase = .idle ∧ nextOf (exec .contend s) = s) ∧
      nextOf (exec .contend readySlot) ≠ readySlot := by decide +kernel

theorem witness_CallAccepted_closing :
    let s := resumed .holding
    ((s.window 1).hold = .holding ∧ s.engine.op = .write ∧ (256 : Word).toNat = (entry .resuming).progress) ∧
      (nextOf (exec (.acceptReceived link 256) s)).engine.phase = .closing ∧
      (nextOf (exec (.acceptReceived link 256) s)).bus.driving = some ⟨⟨1, 2, 5, 3⟩, .disconnect .held 256⟩ ∧
      (nextOf (exec (.abortReceived link 1) (nextOf (exec .frameSentGood (nextOf
        (exec (.acceptReceived link 256) s)))))).service.entries = [] := by decide +kernel

/-- A NAK that names the next sequence: an initiator with everything sent, a READ target at each of its stops. -/
theorem witness_AckAndNakTaken_next :
    (let s := { sending with engine := { sending.engine with
      unacked := [sent 1 256 256, sent 2 512 88], sendPos := 600, nextSeq := 3 } }
    (∀ g ∈ s.engine.unacked, g.seq ≠ s.engine.nextSeq) ∧
      s.engine.length ≤ max s.engine.sendPos (s.engine.unacked.getLast?.elim 0 fun g => g.pos + g.len) ∧
      (nextOf (exec (.nakReceived link 3) s)).engine.phase = .awaitingFinish) ∧
      (let s := oneOut .ready 2
      (s.delivers link ∧ s.engine.hears link = true ∧ s.engine.phase = .sending ∧ s.engine.abortDue = none ∧
        ∀ g ∈ s.engine.unacked, g.seq ≠ s.engine.nextSeq) ∧
        (nextOf (exec (.nakReceived link 1) s)).engine.closing = some (.disconnect .tenure 256)) ∧
      (nextOf (exec (.nakReceived link 1) (oneOut .holding 1))).engine.closing = some (.disconnect .held 256) ∧
      (nextOf (exec (.nakReceived link 1) (oneOut .ready 1))).engine.closing = none ∧
      (nextOf (exec (.nakReceived link 3) readSender)).engine.closing = some (.finish 600) := by
  unfold State.delivers; decide +kernel

theorem witness_EndAgain :
    let s := ended .answering
    (s.delivers link ∧ s.engine.hears link = true ∧ s.engine.phase = .closing ∧ s.engine.endSent = true ∧
      s.engine.busRole = .answering) ∧
      (nextOf (exec (.finishReceived link 600) s)).bus.driving = some ⟨⟨1, 2, 5, 3⟩, .endConnection⟩ ∧
      (nextOf (exec (.disconnectReceived link 1 256) s)).bus.driving = some ⟨⟨1, 2, 5, 3⟩, .endConnection⟩ ∧
      (nextOf (exec (.withdrawReceived link 2) s)).bus.driving = some ⟨⟨1, 2, 5, 3⟩, .endConnection⟩ := by
  unfold State.delivers; decide +kernel

theorem witness_EndOfNote :
    let s := { noteTarget with engine := { noteTarget.engine with phase := .closing, closing := some (.finish 32) } }
    (s.delivers link ∧ s.engine.hears link = true ∧ s.entry? s.engine.key = none ∧ s.engine.closing.isSome = true) ∧
      (nextOf (exec (.endReceived link) s)).engine = .idle := by
  unfold State.delivers; decide +kernel

theorem witness_EndTaken_aside :
    let ends (s : State) : State := nextOf (exec (.endReceived link) s)
    let leaves (s : State) : State := { s with station := { s.station with state := .leaving } }
    (let s := closer .ready (.disconnect .held 256) (entry .connected)
    ((s.window 1).hold = .ready ∧ ServiceTable s) ∧
      (ends s).service.entries.map (·.state) = [.ready] ∧ (ends s).service.queue = [key]) ∧
      (let s := closer .holding (.disconnect .tenure 256) (entry .connected)
      ((s.window 1).hold = .holding ∧ s.service.entries = [entry .connected]) ∧
        ((ends s).window 1).hold = .held ∧ (ends s).flag .windowHeld = true ∧
        (leaves s).station.state = .leaving ∧ (ends (leaves s)).service.queue = [key] ∧
        (ends (leaves s)).service.entries.map (·.state) = [.withdrawDue]) := by
  unfold ServiceTable; decide +kernel

/-- A PARKED entry under a closing that has not ended, with one PARKED after it. -/
theorem witness_AbortTaken_parked :
    let e : Entry := { entry .parked with stamp := some 1, parkTimer := some 256 }
    let s := closer .held (.disconnect .held 256) e
    let s := { s with service := { s.service with entries := [e, parked 2 1] } }
    (s.delivers link ∧ s.engine.hears link = true ∧ s.entry? s.engine.key = some e ∧ e.stamp = some 1) ∧
      (nextOf (exec (.abortReceived link 1) s)).service.entries.map (·.stamp) = [some 1] := by
  unfold State.delivers; decide +kernel

/-- ONLINE, its PRESENT on the line. -/
def presenting : State :=
  { view on .held with bus := { (view on .held).bus with driving := some ⟨selfHead, .present⟩, turn := .none } }

theorem witness_FrameEndsAndCollisions_present :
    (presenting.bus.driving = some ⟨selfHead, .present⟩ ∧ presenting.station.collisionRun < 3 ∧
      (nextOf (exec .collisionDetected presenting)).bus.outbox = [] ∧
      (nextOf (exec .collisionDetected presenting)).station.collisionRun = 1) ∧
      (let s := driving (run faulted 3) (.data 7 [1])
      (3 ≤ s.station.collisionRun ∧ s.station.state = .online ∧ s.engine.abortDue = some (.localFault .busError) ∧
        (s.slot 5).state = .active ∧ (s.slot 5).state.live = true) ∧
        ((nextOf (exec .collisionDetected s)).slot 5).outcome = some .left) ∧
      (let s := driving (run faulted 3) (.abort .localFault)
      s.bus.driving = some (s.connFrame (.abort .localFault)) ∧
        ((nextOf (exec .collisionDetected s)).slot 5).outcome = some (.localFault .busError)) ∧
      ((nextOf (exec .collisionDetected (driving (run sending 3) (.data 7 [1])))).slot 5).outcome = some .left ∧
      (let s := { driving (run faulted 3) (.abort .localFault) with station :=
        { (run faulted 3).station with state := .leaving } }
      (nextOf (exec .collisionDetected s)).station.cause = .idConflict) := by decide +kernel

theorem witness_SilenceAndRelease_note :
    (noteTarget.engine.role = .target ∧ noteTarget.entry? noteTarget.engine.key = none ∧ noteTarget.notes.reserved = true ∧
      noteTarget.arb.entered = none ∧ noteTarget.engine.abortDue = none) ∧
      (nextOf (exec .holdLineReleased (view noteTarget .free))).notes.reserved = false ∧
      (let s := { noteTarget with engine := { noteTarget.engine with silenceTimer := some 80 } }
      s.engine.silenceTimer.isSome = true ∧ (nextOf (exec .silenceTimeout s)).notes.reserved = false) := by decide +kernel

theorem witness_CauseStands :
    let s := aborting allSent (.link .retries)
    let r := view (aborting readSender (.localFault .busError)) .free
    (s.engine.phase = .awaitingFinish ∧ s.engine.abortDue.isSome = true ∧ s.delivers link ∧ s.engine.hears link = true ∧
      (Instr.finishReceived link 600).wf = true ∧ (Instr.disconnectReceived link 1 600).wf = true ∧
      (Instr.dataReceived link 0 [1]).wf = true ∧ (Instr.ackReceived link 0).wf = true ∧ (Instr.nakReceived link 0).wf = true) ∧
      ((nextOf (exec (.finishReceived link 600) s)).slot 5).state = .active ∧
      ((nextOf (exec (.finishReceived link 600) allSent)).slot 5).state = .finished ∧
      (r.engine.abortDue = some (.localFault .busError) ∧ r.engine.phase = .sending ∧
        (nextOf (exec .holdLineReleased r)).engine.phase = .sending ∧
        (nextOf (exec .holdLineReleased (view readSender .free))).engine.phase = .idle) := by
  unfold State.delivers; decide +kernel

theorem witness_LocalFaults_first :
    let s := granted (aborting sending (.link .retries)) .mover (.read 64 4)
    (s.drained = false ∧ s.port.orphans = [] ∧ s.engine.abortDue = some (.link .retries)) ∧
      (nextOf (exec .localBusError s)).engine.abortDue = some (.link .retries) ∧
      (nextOf (exec .localBusError (granted (put sending 5 { slot .active with cancelRequested := true }) .mover
        (.read 64 4)))).engine.abortDue = some (.localFault .busError) := by decide +kernel

/-- A payload at `pos` being read from DIRECT memory at `a`, `done` of its bytes read. -/
def readsDirect (pos len done a : Nat) : State :=
  granted { put sending 5 { slot .active with localAddr := a } with
    mover := { Mover.idle with buffer := some ⟨pos, len, List.replicate done 9, false⟩ } } .mover (.read (a + pos + done) 4)

/-- A payload of 8 bytes at 0 being stored in window 1, and one of 4 bytes at 8 held behind it; `bytes` go out. -/
def storesTwo (done : Nat) (bytes : List Byte) : State :=
  granted { receiving 1 with
    mover := { Mover.idle with stores := [⟨0, 0, [1, 2, 3, 4, 5, 6, 7, 8], done⟩, ⟨1, 8, [9, 9, 9, 9], 0⟩] } }
    .mover (.write (65536 + done) bytes)

theorem witness_MoverEnds_read :
    (let s := readsDirect 0 88 4 64
    (s.usesList = false ∧ s.mover.fetch = none ∧ s.engine.abortDue = none ∧ s.port.waiting = [] ∧
      (List.replicate 4 (9 : Byte)).length + 4 < 88) ∧
      s.placeOf 8 = .found 72 16777216 ∧
      (nextOf (exec (.localTransactionEnds [1, 2, 3, 4]) s)).port.current = some ⟨.mover, .read 72 56, .running⟩) ∧
      (let s := readsDirect 0 88 0 4294967292
      s.placeOf 4 = .found 4294967296 16777216 ∧
        (nextOf (exec (.localTransactionEnds [1, 2, 3, 4]) s)).engine.abortDue = some (.localFault .busError)) ∧
      (let s := put (listReads 2 96) 5 { slot .active with form := .list, segments := 2, localAddr := 4294967288 }
      ({ s.mover with working := ⟨0, 100⟩ } : Mover).place 2 = .fetch 1 ∧
        (nextOf (exec (.localTransactionEnds [1, 2, 3, 4]) s)).engine.abortDue = some (.localFault .busError)) := by
  decide +kernel

theorem witness_MoverEnds_store :
    (let s := storesTwo 0 [1, 2, 3, 4]
    (s.usesList = false ∧ s.mover.fetch = none ∧ s.engine.abortDue = none ∧ s.port.waiting = [] ∧ s.mover.buffer = none ∧
      0 + ([1, 2, 3, 4] : List Byte).length < 8) ∧
      (nextOf (exec (.localTransactionEnds []) s)).port.current = some ⟨.mover, .write 65540 [5, 6, 7, 8], .running⟩) ∧
      (let s := storesTwo 4 [5, 6, 7, 8]
      (4 + ([5, 6, 7, 8] : List Byte).length = 8 ∧ s.placeOf 8 = .found 65544 16777216) ∧
        (nextOf (exec .payloadStoreEnds s)).port.current = some ⟨.mover, .write 65544 [9, 9, 9, 9], .running⟩ ∧
        (nextOf (exec .payloadStoreEnds s)).engine.writtenSeq = some 0) := by decide +kernel

/-- Retries exhausted after DISCONNECT(HELD): the window at that moment decides. -/
theorem witness_AckAndCloseTimeout_disconnect :
    let spent (h : HoldState) : State :=
      let s := closer h (.disconnect .held 256) (entry .connected)
      { s with engine := { s.engine with closeRetries := 3 } }
    let after (h : HoldState) : State := nextOf (exec .closeTimeout (spent h))
    ((spent .holding).engine.closeTimer.isSome = true ∧ (spent .holding).arb.entered = none ∧
      (spent .holding).engine.closing = some (.disconnect .held 256) ∧ ServiceTable (spent .holding)) ∧
      (after .ready).service.queue = [key] ∧ (after .holding).service.entries.map (·.stamp) = [some 1] ∧
      ((after .holding).window 1).hold = .held := by
  unfold ServiceTable; decide +kernel

/-- The silence timer of a receiver expires while its ACK is on the data path; a round begins while a closer's FINISH is. -/
theorem witness_SilenceAndRelease_driving :
    (let s := driving (receiving 0) (.ack 0)
    (s.engine.silenceTimer.isSome = true ∧ s.bus.driving.isSome = true ∧ s.engine.abortDue = none) ∧
      (nextOf (exec .silenceTimeout s)).bus.driving = none ∧ (nextOf (exec .silenceTimeout s)).bus.turn = .theirs ∧
      (nextOf (exec .silenceTimeout s)).flag .collision = false) ∧
      (let s := view (driving (closer .ready (.finish 600) (entry .connected)) (.finish 600)) .free
      (s.bus.view = .free ∧ s.bus.driving = some (s.connFrame (.finish 600)) ∧ (Body.finish 600).isRollCall = false ∧
        s.station.collisionRun < 3 ∧ s.engine.abortDue = none ∧ s.arb.entered = none) ∧
        (nextOf (exec .roundBegins s)).bus.driving = none ∧ (nextOf (exec .roundBegins s)).flag .collision = true ∧
        (nextOf (exec .roundBegins s)).service.entries = []) := by decide +kernel

/-- A WITHDRAW that is being sent again stops when the answer timer expires. -/
theorem witness_AnswerTimeout_driving :
    let s := driving withdrawing (.withdraw .parkLimit)
    (s.engine.answerTimer.isSome = true ∧ s.bus.driving.isSome = true ∧ s.engine.busRole = .holder) ∧
      (nextOf (exec .answerTimeout s)).bus.driving = none := by decide +kernel
/-! ### Records and registers as the host reads them (13.3, 12.1) -/

theorem test_completionRecord :
    recordBytesOf 2 { slot .finished with
        userWord := 0x11223344, progress := 600, outcome := some (.linkError .silence), standing := some part
        moreToCome := true } =
      [0x44, 0x33, 0x22, 0x11, 0x58, 2, 0, 0, 2, 3, 4, 2, 2, 2, 1, 0, 255, 1] ++ List.replicate 14 0 := by decide +kernel

theorem test_copyOut_message :
    copyOutBytesOf (.message 2 [7, 8]) =
      [1, 2, 0, 0, 2, 0, 0, 0, 0, 0, 0, 0, 0, 0, 0, 0, 7, 8] ++ List.replicate 30 0 := by decide +kernel

theorem test_copyOut_announce :
    copyOutBytesOf (.announce 3 1 256 600) =
      [2, 3, 1, 0, 0x58, 2, 0, 0, 0, 1, 0, 0, 0, 0, 0, 0] ++ List.replicate 32 0 := by decide +kernel

theorem test_status : ({ on with host := { on.host with busy := true, lost := true } } : State).readRegister 0x0C = some 0x100F := by
  decide +kernel

theorem test_result :
    (nextOf (exec .leave State.reset)).readRegister 0x08 = some 0x00000201 ∧
      (nextOf (exec .leave State.reset)).readRegister 0x10 = some 0x400 := by decide +kernel

theorem test_undefinedCode : (nextOf (exec (.undefinedCommandCode 13) on)).readRegister 0x08 = some 0x00000D03 := by
  decide +kernel

theorem test_noSuchRegister : State.reset.readRegister 0x2C = none := by decide +kernel

end Sys2Proof.Tests
end

section
/-! The Bus Request Selector (R64, R65): what it picks for each want, and with it how a station that has lost a round
contends again (R70). -/

namespace Sys2Proof.Machine

/-! ### When a station may contend, and how it enters the round (R64, R66) -/

theorem State.mayContend_iff (s : State) :
    s.mayContend = true ↔
      (s.station.state = .joining ∨ s.station.state = .online ∨ s.station.state = .leaving) ∧
        s.bus.view = .free ∧ s.arb.abstaining = false ∧ s.engine.phase = .idle ∧ s.bus.driving = none := by
  simp [State.mayContend, and_assoc, or_assoc]

/-- A station that may contend enters the round with the want its Selector picks. -/
theorem exec_contend_of_pickWant {s t : State} {w : Want} (may : s.mayContend = true)
    (pick : s.pickWant = some (t, w)) : exec .contend s = .next (t.enterRound w) := by
  have entry : s.roundEntry? = some (t, w) := by rw [State.roundEntry?, if_pos may, pick]
  change execContend s = _
  rw [execContend, State.contend, entry]

/-! ### Finding the owner of a want -/

theorem find?_eq_some_of_unique {α : Type} {p : α → Bool} {l : List α} {a : α} (mem : a ∈ l) (pa : p a = true)
    (only : ∀ b ∈ l, p b = true → b = a) : l.find? p = some a := by
  obtain ⟨b, found⟩ := Option.isSome_iff_exists.mp (List.find?_isSome.mpr ⟨a, mem, pa⟩)
  rw [found, only b (List.mem_of_find?_eq_some found) (List.find?_some found)]

/-- The only RESUMING or WITHDRAWING entry is the taken one. -/
theorem State.taken?_of_unique {s : State} {n : Entry} (mem : n ∈ s.service.entries)
    (only : ∀ f ∈ s.service.entries, f.state = .resuming ∨ f.state = .withdrawing → f = n)
    (state : n.state = .resuming ∨ n.state = .withdrawing) : s.taken? = some n :=
  find?_eq_some_of_unique mem (decide_eq_true state) fun f hf taken => only f hf (of_decide_eq_true taken)

theorem State.taken?_eq_none {s : State}
    (untaken : ∀ f ∈ s.service.entries, f.state ≠ .resuming ∧ f.state ≠ .withdrawing) : s.taken? = none :=
  List.find?_eq_none.mpr fun f hf => by simp [untaken f hf]

theorem mem_slotIds (i : SlotId) : i ∈ slotIds := by
  revert i; decide

/-- The one SELECTED slot is the one that the Selector finds (R8). -/
theorem State.selected?_of_oneSelected {s : State} (one : OneSelected s) {i : SlotId}
    (sel : (s.slot i).state = .selected) : s.selected? = some i :=
  find?_eq_some_of_unique (mem_slotIds i) (decide_eq_true sel) fun j _ selj => one j i (of_decide_eq_true selj) sel

/-! ### The wants in the Selector's order (R65) -/

theorem State.pickWant_rollcall {s : State} (joining : s.station.state = .joining)
    (due : s.station.rollcallDue = true) : s.pickWant = some (s, .rollcall) := by
  rw [State.pickWant, if_pos joining, if_pos due]

theorem State.pickWant_taken {s : State} {n : Entry} (nj : s.station.state ≠ .joining) (taken : s.taken? = some n) :
    s.pickWant = some (s, if n.state = .resuming then .resume n.key else .withdraw n.key) := by
  rw [State.pickWant, if_neg nj, taken]

/-- With no taken entry the head of the resume queue comes next, ahead of every Open want. -/
theorem State.pickWant_queueHead {s : State} {k : Key} {rest : List Key} {n : Entry}
    (nj : s.station.state ≠ .joining) (untaken : s.taken? = none) (queue : s.service.queue = k :: rest)
    (head : s.entry? k = some n) :
    ∃ t, s.pickWant = some (t, if n.state = .withdrawDue then .withdraw k else .resume k) := by
  simp [State.pickWant, nj, untaken, State.takeQueueHead, queue, head]

theorem State.pickWant_selected {s : State} {i : SlotId} (nj : s.station.state ≠ .joining)
    (nl : s.station.state ≠ .leaving) (spent : s.arb.spent = false) (untaken : s.taken? = none)
    (queue : s.service.queue = []) (sel : s.selected? = some i) (out : (s.slot i).callOut = false) :
    s.pickWant = some (s, .connect i) := by
  have noHead : s.takeQueueHead = none := by rw [State.takeQueueHead, queue]
  have selWant : s.openWant = some (s, .connect i) := by simp [State.openWant, spent, nl, sel, out]
  rw [State.pickWant, if_neg nj, untaken]
  simp [noHead, selWant]

/-! ### After a lost round (R70) -/

/-- The station after a lost round: another station is the holder, and no want is entered. -/
def State.loseRound (s : State) : State := { s.heldByOther with arb := { s.arb with entered := none } }

theorem exec_roundLost {s : State} {e : Entered} (view : s.bus.view = .contending) (entered : s.arb.entered = some e) :
    exec .roundLost s = .next s.loseRound := by
  change execRoundLost s = _
  rw [execRoundLost, if_pos ⟨view, by rw [entered]; rfl⟩, State.loseRound]

/-- At the FREE after a lost round only the conditions that the loss leaves alone decide whether the station contends. -/
theorem State.mayContend_loseRound_enterFree {s : State}
    (state : s.station.state = .joining ∨ s.station.state = .online ∨ s.station.state = .leaving)
    (may : s.arb.abstaining = false ∧ s.engine.phase = .idle ∧ s.bus.driving = none) :
    s.loseRound.enterFree.mayContend = true :=
  (State.mayContend_iff _).mpr ⟨state, rfl, may⟩

/-- Settles O32: the loss leaves every owner of a want as it was, so the Selector finds the same want at the next FREE, or
the head of a resume queue that has filled meanwhile. -/
theorem roundLost : Obligations.RoundLost := by
  intro s e view entered t u again may
  have again_of : s.loseRound.enterFree.mayContend = true →
      s.loseRound.enterFree.pickWant = some (s.loseRound.enterFree, e.want) → again := exec_contend_of_pickWant
  have nj : s.station.state = .online ∨ s.station.state = .leaving → s.station.state ≠ .joining := by
    rintro (h | h) <;> simp [h]
  refine ⟨exec_roundLost view entered, ?rollcall, ?taken, ?selected, ?queued⟩
  case rollcall =>
    intro hmay joining due want
    exact again_of (State.mayContend_loseRound_enterFree (.inl joining) hmay)
      (want ▸ State.pickWant_rollcall joining due)
  case taken =>
    intro hmay state n mem only
    have mayU := State.mayContend_loseRound_enterFree (.inr state) hmay
    have pick (h : n.state = .resuming ∨ n.state = .withdrawing) :=
      State.pickWant_taken (s := s.loseRound.enterFree) (nj state) (State.taken?_of_unique mem only h)
    constructor
    · intro resuming want
      exact again_of mayU (by rw [pick (.inl resuming), if_pos resuming, want])
    · intro withdrawing want
      exact again_of mayU (by rw [pick (.inr withdrawing), if_neg (by simp [withdrawing]), want])
  case selected =>
    intro hmay online spent queue one untaken i sel out want
    exact again_of (State.mayContend_loseRound_enterFree (.inr (.inl online)) hmay)
      (want ▸ State.pickWant_selected (nj (.inl online)) (by simp [State.loseRound, online]) spent
        (State.taken?_eq_none untaken) queue (State.selected?_of_oneSelected one sel) out)
  case queued =>
    intro hmay state x k rest n queue head untaken
    obtain ⟨v, pick⟩ := State.pickWant_queueHead (s := { u with service := x }) (nj state)
      (State.taken?_eq_none untaken) queue head
    have mayX : ({ u with service := x } : State).mayContend = true :=
      State.mayContend_loseRound_enterFree (.inr state) hmay
    exact ⟨_, exec_contend_of_pickWant mayX pick, rfl, rfl⟩

end Sys2Proof.Machine
end

section
/-! EVENT and EVENT_ENABLE (R168, R169): which operations keep the enables and every flag that is set, in the order of
the model, and with them the interrupt line's rule. -/

namespace Sys2Proof.Machine

/-- No enable changes and no flag is cleared from `s` to `t`. -/
def State.EventsKept (s t : State) : Prop :=
  t.host.enable = s.host.enable ∧ ∀ e : Event, s.flag e = true → t.flag e = true

namespace State.EventsKept

variable {s t u : State}

/-! ### Rules of the relation -/

theorem refl (s : State) : EventsKept s s := ⟨rfl, fun _ => id⟩

/-- An operation that leaves the Host Interface as it is keeps the events. -/
theorem frame (h : EventsKept s t) (same : u.host = t.host) : EventsKept s u := by
  unfold EventsKept State.flag
  rw [same]
  exact h

theorem ite {c : Prop} [Decidable c] (ht : EventsKept s t) (hu : EventsKept s u) :
    EventsKept s (if c then t else u) := by
  split
  · exact ht
  · exact hu

theorem foldl {α : Type} {f : State → α → State} (step : ∀ {t : State} (a : α), EventsKept s t → EventsKept s (f t a))
    (l : List α) (h : EventsKept s t) : EventsKept s (l.foldl f t) := by
  induction l generalizing t with
  | nil => exact h
  | cons a l ih => exact ih (step a h)

/-! ### Events and results -/

theorem raise (h : EventsKept s t) (e : Event) : EventsKept s (t.raise e) := by
  obtain ⟨enable, flags⟩ := h
  refine ⟨enable, fun f set => ?_⟩
  have kept : t.host.event.getLsbD f.bit = true := flags f set
  simp [State.flag, kept]

theorem raiseIf (h : EventsKept s t) (c : Bool) (e : Event) : EventsKept s (t.raiseIf c e) := .ite (h.raise e) h

theorem finish (h : EventsKept s t) (command : Byte) (code : ResultCode) (detail : Nat := 0) :
    EventsKept s (t.finish command code detail) :=
  raise (t := { t with host := { t.host with result := _, busy := false } }) h .commandDone

theorem takeCommand {act : Word → State → State} (h : EventsKept s t)
    (taken : ∀ {t : State} (a : Word), EventsKept s t → EventsKept s (act a t)) : EventsKept s (t.takeCommand act) := by
  obtain ⟨_, lost⟩ | ⟨_, accepted⟩ := t.takeCommand_cases act
  · rw [lost]; exact h
  · rw [accepted]; exact taken _ h

/-! ### Service Unit and Note Queue -/

theorem windowCheck (h : EventsKept s t) (w : WindowId) : EventsKept s (t.windowCheck w) :=
  .ite ((h.frame (by simp)).raise _) h

theorem parkEntry (h : EventsKept s t) (k : Key) : EventsKept s (t.parkEntry k) := h.frame (by simp)

theorem parkAndCheck (h : EventsKept s t) (k : Key) : EventsKept s (t.parkAndCheck k) := by
  unfold State.parkAndCheck
  split
  · exact h
  · exact (h.parkEntry k).windowCheck _

theorem removeEntry (h : EventsKept s t) (k : Key) : EventsKept s (t.removeEntry k) := by
  unfold State.removeEntry
  split
  · exact h
  · exact windowCheck (.ite (h.frame (by simp)) (h.frame (by simp))) _

theorem retireEntry (h : EventsKept s t) (k : Key) : EventsKept s (t.retireEntry k) := h.removeEntry k

theorem dropEntry (h : EventsKept s t) (k : Key) : EventsKept s (t.dropEntry k) := .ite ((h.removeEntry k).raise _) h

theorem storeNote (h : EventsKept s t) (n : Note) : EventsKept s (t.storeNote n) := (h.frame (by simp)).raise _

theorem storeMessage (h : EventsKept s t) (sender : StationId) (payload : List Byte) :
    EventsKept s (t.storeMessage sender payload) := (h.frame (by simp)).storeNote _

theorem finishEntry (h : EventsKept s t) (k : Key) : EventsKept s (t.finishEntry k) := by
  unfold State.finishEntry
  split
  · exact h
  · exact .ite ((h.retireEntry k).storeNote _) (h.retireEntry k)

theorem settleDisconnect (h : EventsKept s t) (k : Key) : EventsKept s (t.settleDisconnect k) := by
  unfold State.settleDisconnect
  split
  · exact h
  · exact .ite h (.ite (h.frame (by simp)) (h.parkAndCheck k))

theorem settleFinish (h : EventsKept s t) (k : Key) : EventsKept s (t.settleFinish k) := by
  unfold State.settleFinish
  split
  · exact h
  · exact .ite (h.finishEntry k) h

theorem entryUnanswered (h : EventsKept s t) (k : Key) : EventsKept s (t.entryUnanswered k) := by
  unfold State.entryUnanswered
  split
  · exact h
  · refine .ite h ?_
    have counted : EventsKept s (t.updateEntry k fun x => { x with noAnswers := x.noAnswers + 1 }) := h.frame (by simp)
    exact .ite (counted.dropEntry k)
      (.ite (counted.frame (by simp)) (.ite (counted.frame (by simp)) (counted.parkAndCheck k)))

theorem holdReady (h : EventsKept s t) (w : WindowId) : EventsKept s (t.holdReady w) := by
  have parked := foldl (fun k h => parkEntry h k)
    (t.service.queue.filter fun k => (t.entry? k).elim false fun e => e.window = w && e.state = .ready) h
  exact .ite (parked.frame (by simp)) ((parked.frame (by simp)).raise _)

theorem releaseHeld (h : EventsKept s t) (w : WindowId) : EventsKept s (t.releaseHeld w) := h.frame (by simp)

theorem peerSilentEntries (h : EventsKept s t) (p : StationId) : EventsKept s (t.peerSilentEntries p) :=
  foldl (fun k h => h.dropEntry k) _ h

theorem holdAll (h : EventsKept s t) : EventsKept s t.holdAll :=
  foldl (fun _ h => .ite ((h.frame (by simp)).raise _) h) _ h

theorem emptyTable (h : EventsKept s t) : EventsKept s t.emptyTable := (h.frame (by simp)).raiseIf _ _

/-! ### Station Control -/

theorem peerSilentSlots (h : EventsKept s t) (p : StationId) : EventsKept s (t.peerSilentSlots p) := h.frame (by simp)

theorem silence (h : EventsKept s t) (p : StationId) : EventsKept s (t.silence p) :=
  (((h.frame (by simp)).raise _).peerSilentSlots p).peerSilentEntries p

theorem peerNoAnswer (h : EventsKept s t) (p : StationId) : EventsKept s (t.peerNoAnswer p) :=
  .ite (h.frame (by simp)) (.ite (h.silence p) (h.frame (by simp)))

theorem goOffline (h : EventsKept s t) (cause : OfflineCause) : EventsKept s (t.goOffline cause) :=
  (h.frame (by simp)).raise _

theorem idConflict (h : EventsKept s t) : EventsKept s t.idConflict := (h.frame (by simp)).emptyTable.goOffline _

theorem drainTest (h : EventsKept s t) : EventsKept s t.drainTest := .ite (h.goOffline _) h

theorem forgetRollCall (h : EventsKept s t) : EventsKept s t.forgetPeers.restartRollCall := h.frame (by simp)

theorem busReset (h : EventsKept s t) : EventsKept s t.busReset :=
  ((h.frame (by simp)).emptyTable.holdAll.forgetRollCall.raise _).drainTest

theorem goOnline (h : EventsKept s t) : EventsKept s t.goOnline := (h.frame (by simp)).raise _

/-! ### Loader, note copier and completion writer -/

theorem loadStopped (h : EventsKept s t) : EventsKept s t.loadStopped := by
  unfold State.loadStopped
  split
  · exact (h.frame (by simp)).finish _ _
  · exact h

theorem loaderFault (h : EventsKept s t) : EventsKept s t.loaderFault := by
  unfold State.loaderFault
  split
  · exact h
  · refine .ite h.loadStopped ?_
    split
    · exact (h.frame (by simp)).finish _ _ _
    · exact ((h.frame (by simp)).raise _).finish _ _ _

theorem loaderAsk (h : EventsKept s t) : EventsKept s t.loaderAsk := by
  unfold State.loaderAsk
  split
  · exact h
  · exact .ite h.loaderFault (h.frame (by simp))

theorem descriptorLoaded (h : EventsKept s t) (i : SlotId) (bytes : List Byte) :
    EventsKept s (t.descriptorLoaded i bytes) := by
  unfold State.descriptorLoaded
  dsimp only
  split
  · exact (h.frame (by simp)).finish _ _ _
  · exact (h.frame (by simp)).finish _ _ _

theorem configLoaded (h : EventsKept s t) (bytes : List Byte) : EventsKept s (t.configLoaded bytes) := by
  unfold State.configLoaded
  dsimp only
  split
  · exact ((h.frame (by simp)).raise _).finish _ _ _
  · refine (raise ?_ _).finish _ _
    exact h

theorem loaderRead (h : EventsKept s t) (data : List Byte) : EventsKept s (t.loaderRead data) := by
  unfold State.loaderRead
  split
  · exact h
  · refine .ite h.loadStopped (.ite (h.frame (by simp)).loaderAsk ?_)
    split
    · exact (h.frame (by simp)).descriptorLoaded _ _
    · exact (h.frame (by simp)).configLoaded _

theorem copyEnded (h : EventsKept s t) : EventsKept s t.copyEnded :=
  .ite ((h.frame (by simp)).finish _ _ _) ((h.frame (by simp)).finish _ _ _)

theorem copierWrote (h : EventsKept s t) (n : Nat) : EventsKept s (t.copierWrote n) := by
  unfold State.copierWrote
  split
  · exact h
  · exact .ite (h.frame (by simp)) h.copyEnded

theorem copierFault (h : EventsKept s t) : EventsKept s t.copierFault := (h.frame (by simp)).finish _ _ _

theorem writerFault (h : EventsKept s t) (addr : Nat) : EventsKept s (t.writerFault addr) := by
  refine raise ?_ .ringFault
  exact h

theorem writerAsk (h : EventsKept s t) : EventsKept s t.writerAsk := by
  unfold State.writerAsk
  split
  · exact h
  · exact .ite (h.writerFault _) (h.frame (by simp))

theorem recordWritten (h : EventsKept s t) (i : SlotId) (more : Bool) : EventsKept s (t.recordWritten i more) :=
  h.frame (by simp)

theorem recordEnded (h : EventsKept s t) (r : Record) : EventsKept s (t.recordEnded r) := by
  have advanced : EventsKept s { t with
      host := { t.host with producer := (t.host.producer + 1) % t.settings.ringSize }
      writer := { t.writer with record := none } } := h
  have written := (advanced.raise .completion).recordWritten r.slot r.more
  exact .ite (written.frame (by simp)) written

theorem writerWrote (h : EventsKept s t) (n : Nat) : EventsKept s (t.writerWrote n) := by
  unfold State.writerWrote
  split
  · exact h
  · exact .ite (h.frame (by simp)).writerAsk (h.recordEnded _)

theorem takeRecord (h : EventsKept s t) : EventsKept s t.takeRecord := by
  unfold State.takeRecord
  split
  · exact .ite (h.frame (by simp)).writerAsk h
  · exact h

/-! ### Connection Engine -/

theorem endSide (h : EventsKept s t) (o : ExchangeOutcome) : EventsKept s (t.endSide o) := by
  unfold State.endSide
  dsimp only
  split
  · exact .ite (h.frame (by simp)) (h.frame (by simp))
  · exact (h.frame (by simp)).dropEntry _

theorem endSilent (h : EventsKept s t) : EventsKept s t.endSilent := by
  unfold State.endSilent
  dsimp only
  split
  · exact .ite (h.frame (by simp)) (h.frame (by simp))
  · exact .ite ((h.frame (by simp)).dropEntry _) (h.frame (by simp))

theorem takeInOrder (h : EventsKept s t) (seq : SeqNo) (payload : List Byte) :
    EventsKept s (t.takeInOrder seq payload) := .ite ((h.frame (by simp)).storeMessage _ _) (h.frame (by simp))

theorem takeData (h : EventsKept s t) (seq : SeqNo) (payload : List Byte) : EventsKept s (t.takeData seq payload) :=
  .ite h (.ite (.ite (h.takeInOrder seq payload) h) (.ite (h.frame (by simp)) (h.frame (by simp))))

theorem closingDone (h : EventsKept s t) : EventsKept s t.closingDone := by
  unfold State.closingDone
  dsimp only
  split
  · exact (h.frame (by simp)).settleFinish _
  · exact (h.frame (by simp)).settleDisconnect _
  · exact h.frame (by simp)

theorem withdrawDone (h : EventsKept s t) : EventsKept s t.withdrawDone := (h.frame (by simp)).retireEntry _

theorem closeExpired (h : EventsKept s t) : EventsKept s t.closeExpired := by
  refine .ite (.ite (h.frame (by simp)) h.withdrawDone) ?_
  split
  · exact .ite (h.frame (by simp)) h.closingDone
  · exact h

theorem answeringEnds (h : EventsKept s t) : EventsKept s t.answeringEnds := .ite (.ite h.closingDone h.endSilent) h

theorem releaseSeen (h : EventsKept s t) : EventsKept s t.releaseSeen := by
  refine .ite ?_ h
  cases t.engine.phase with
  | sending | receiving | awaitingFinish => exact .ite h h.endSilent
  | closing => exact .ite (h.frame (by simp)) h
  | idle | calling | answering => exact h

/-! ### Frames received -/

theorem pump (h : EventsKept s t) : EventsKept s t.pump := h.frame (by simp)

theorem hear {deliver : State → State} (h : EventsKept s t) (head : FrameHead)
    (delivered : ∀ {t : State}, EventsKept s t → EventsKept s (deliver t)) : EventsKept s (t.hear head deliver) := by
  refine .ite ?_ h
  have taken : EventsKept s
      (if head.src = t.ownId then t
        else if head.dst = t.ownId then (deliver (t.sourceReport head.src).yieldPath).pump.drainTest
        else t.sourceReport head.src) :=
    .ite h (.ite (pump (delivered (h.frame (by simp)))).drainTest (h.frame (by simp)))
  cases t.station.state with
  | offline | configuring => exact h
  | joining => exact h.frame (by simp)
  | online | leaving => exact taken

theorem within {take : State → State} (h : EventsKept s t) (head : FrameHead)
    (taken : ∀ {t : State}, EventsKept s t → EventsKept s (take t)) : EventsKept s (t.within head take) :=
  .ite (taken (h.frame (by simp))) h

theorem takeConnect (h : EventsKept s t) (head : FrameHead) (operation window : Byte) (offset length : Nat) :
    EventsKept s (t.takeConnect head operation window offset length) := by
  have dropped : EventsKept s (t.dropEntry (keyOf head)) := h.dropEntry _
  refine .ite (dropped.frame (by simp)) ?_
  split
  · exact dropped.frame (by simp)
  · split
    · exact dropped.frame (by simp)
    · exact dropped.frame (by simp)
  · split
    · exact dropped.frame (by simp)
    · exact .ite (dropped.frame (by simp)) (dropped.frame (by simp))

theorem closeAtOnce (h : EventsKept s t) (c : ClosingFrame) : EventsKept s (t.closeAtOnce c) := h.frame (by simp)

theorem resumeAccepted (h : EventsKept s t) (offset : Nat) : EventsKept s (t.resumeAccepted offset) := by
  unfold State.resumeAccepted
  dsimp only
  split
  · exact h.frame (by simp)
  · refine .ite (h.frame (by simp)) (.ite (h.frame (by simp)) (.ite (h.frame (by simp)) ?_))
    exact ((h.frame (by simp)).parkAndCheck _).closeAtOnce _

theorem takeAccept (h : EventsKept s t) (offset : Nat) : EventsKept s (t.takeAccept offset) := by
  refine .ite ?_ h
  cases t.engine.purpose with
  | connect => exact h.frame (by simp)
  | resume => exact h.resumeAccepted offset
  | withdraw => exact h

theorem takeRefuse (h : EventsKept s t) (reason : RefuseReason) : EventsKept s (t.takeRefuse reason) := by
  refine .ite ?_ h
  cases t.engine.purpose with
  | connect => exact h.frame (by simp)
  | resume => exact (h.frame (by simp)).dropEntry _
  | withdraw => exact h.withdrawDone

theorem takeEnd (h : EventsKept s t) : EventsKept s t.takeEnd := .ite h.withdrawDone (.ite h.closingDone h)

theorem takeDataFrame (h : EventsKept s t) (seq : SeqNo) (payload : List Byte) :
    EventsKept s (t.takeDataFrame seq payload) := .ite (h.takeData seq payload) h

theorem takeAbort (h : EventsKept s t) (reason : AbortReason) : EventsKept s (t.takeAbort reason) :=
  .ite h (h.endSide _)

theorem takeCall (h : EventsKept s t) (head : FrameHead) (body : Body) : EventsKept s (t.takeCall head body) := by
  refine .ite ?_ (h.within head fun h => h.frame (by simp))
  split
  · exact h.takeConnect _ _ _ _ _
  · exact h.frame (by simp)
  · exact h.frame (by simp)
  · exact h

theorem hearRollCall (h : EventsKept s t) (head : FrameHead) : EventsKept s (t.hearRollCall head) := by
  unfold State.hearRollCall
  cases t.station.state with
  | offline | configuring => exact h
  | joining => exact .ite ((h.frame (by simp)).goOffline _) (h.frame (by simp))
  | online | leaving => exact .ite (h.frame (by simp)) (h.frame (by simp))

theorem hearPresent (h : EventsKept s t) (head : FrameHead) : EventsKept s (t.hearPresent head) := by
  unfold State.hearPresent
  cases t.station.state with
  | offline | configuring => exact h
  | joining => exact .ite (h.goOffline _) (h.frame (by simp))
  | online | leaving => exact .ite h (h.frame (by simp))

theorem takeFrame (h : EventsKept s t) (f : Frame) : EventsKept s (t.takeFrame f) := by
  unfold State.takeFrame
  cases f.body with
  | connect | resume | withdraw => exact h.hear _ fun h => h.takeCall _ _
  | accept => exact h.hear _ fun h => h.within _ fun h => h.takeAccept _
  | refuse => exact h.hear _ fun h => h.within _ fun h => h.takeRefuse _
  | data => exact h.hear _ fun h => h.within _ fun h => h.takeDataFrame _ _
  | endConnection => exact h.hear _ fun h => h.within _ fun h => h.takeEnd
  | abort => exact h.hear _ fun h => h.within _ fun h => h.takeAbort _
  | ack | nak | finish | disconnect => exact h.hear _ fun h => h.within _ fun h => h.frame (by simp)
  | rollcall => exact h.hearRollCall _
  | present => exact h.hearPresent _

theorem receiveFrame (h : EventsKept s t) (f : Frame) : EventsKept s (t.receiveFrame f) := by
  cases receives : t.receives with
  | false => rw [State.receiveFrame_deaf t f receives]; exact h
  | true => rw [State.receiveFrame_of_receives t f receives]; exact (h.frame (by simp)).takeFrame f

theorem receive (h : EventsKept s t) (head : FrameHead) (body : Option Body) : EventsKept s (t.receive head body) := by
  cases body with
  | none => exact h
  | some b => exact h.receiveFrame ⟨head, b⟩

/-! ### Frames sent -/

theorem abortDriven (h : EventsKept s t) : EventsKept s t.abortDriven := by
  unfold State.abortDriven
  split
  · exact h.endSide _
  · exact h

theorem engineFrameEnd (h : EventsKept s t) (f : Frame) (good : Bool) : EventsKept s (t.engineFrameEnd f good) := by
  unfold State.engineFrameEnd
  cases f.body with
  | connect | resume => exact .ite (.ite (h.frame (by simp)) (h.frame (by simp))) h
  | withdraw | accept | refuse => exact .ite (h.frame (by simp)) h
  | finish | disconnect | endConnection | ack => exact h.frame (by simp)
  | abort => exact h.abortDriven
  | data | nak | rollcall | present => exact h

theorem frameEnd (h : EventsKept s t) (f : Frame) (good : Bool) : EventsKept s (t.frameEnd f good) := by
  have engine : EventsKept s (if t.ownsFrame f then t.engineFrameEnd f good else t) :=
    .ite (h.engineFrameEnd f good) h
  unfold State.frameEnd
  cases f.body with
  | rollcall => exact .ite h (.ite (h.frame (by simp)) (h.goOffline _))
  | present => exact h
  | _ => exact engine

theorem sentGood (h : EventsKept s t) (f : Frame) : EventsKept s (t.sentGood f) :=
  ((h.frame (by simp)).frameEnd f true).drainTest

theorem runTest (h : EventsKept s t) : EventsKept s t.runTest := .ite h.idConflict h

theorem sentLost (h : EventsKept s t) (f : Frame) : EventsKept s (t.sentLost f) :=
  (((h.frame (by simp)).raise .collision).frameEnd f false).runTest.drainTest

/-! ### Local transactions -/

theorem requesterGoesOn (h : EventsKept s t) (g : Granted) (data : List Byte) :
    EventsKept s (t.requesterGoesOn g data) := by
  unfold State.requesterGoesOn
  split
  · exact h.frame (by simp)
  · exact h.frame (by simp)
  · exact h.frame (by simp)
  · exact h.writerWrote _
  · exact h.copierWrote _
  · exact h.loaderRead _

theorem requesterFaults (h : EventsKept s t) (g : Granted) : EventsKept s (t.requesterFaults g) := by
  unfold State.requesterFaults
  cases g.who with
  | mover | walker => exact h.frame (by simp)
  | writer => exact h.writerFault _
  | copier => exact h.copierFault
  | loader => exact h.loaderFault

theorem grant (h : EventsKept s t) : EventsKept s t.grant := h.frame (by simp)

theorem transactionEnds (h : EventsKept s t) (data : List Byte) : EventsKept s (t.transactionEnds data) := by
  unfold State.transactionEnds
  split
  · exact .ite (h.frame (by simp)) h
  · split
    · exact h
    · refine .ite ?_ h
      exact (grant (.ite (h.frame (by simp)) ((h.frame (by simp)).requesterGoesOn _ _))).drainTest

theorem transactionFails (h : EventsKept s t) : EventsKept s t.transactionFails := by
  unfold State.transactionFails
  split
  · exact h.frame (by simp)
  · split
    · exact h
    · exact (grant (.ite (h.frame (by simp)) ((h.frame (by simp)).requesterFaults _))).drainTest

/-! ### Host commands and register writes -/

theorem doJoin (h : EventsKept s t) (a : Word) : EventsKept s (State.doJoin a t) := by
  refine .ite (loaderAsk (raise ?_ _)) (h.finish _ _)
  exact h

theorem leaveTables (h : EventsKept s t) : EventsKept s t.leaveSlots.leaveEntries := h.frame (by simp)

theorem doLeave (h : EventsKept s t) : EventsKept s t.doLeave :=
  .ite ((leaveTables ((h.frame (by simp)).raise _)).drainTest.finish _ _) (h.finish _ _)

theorem doPeerReset (h : EventsKept s t) (a : Word) : EventsKept s (State.doPeerReset a t) := by
  refine .ite ?_ (h.finish _ _)
  split
  · exact h.finish _ _
  · exact .ite (h.finish _ _) ((h.frame (by simp)).finish _ _)

theorem doPost (h : EventsKept s t) (a : Word) : EventsKept s (State.doPost a t) := by
  refine .ite (h.finish _ _) ?_
  split
  · exact h.finish _ _
  · refine loaderAsk ?_
    exact h

theorem doCancel (h : EventsKept s t) (a : Word) : EventsKept s (State.doCancel a t) := by
  unfold State.doCancel
  split
  · exact h.finish _ _
  · exact .ite ((EventsKept.ite (h.frame (by simp)) (h.frame (by simp))).drainTest.finish _ _) (h.finish _ _)

theorem doStopStanding (h : EventsKept s t) (a : Word) : EventsKept s (State.doStopStanding a t) := by
  unfold State.doStopStanding
  split
  · exact h.finish _ _
  · split
    · exact h.finish _ _
    · exact .ite ((h.frame (by simp)).finish _ _) (h.finish _ _)

theorem holdReaches (h : EventsKept s t) (w : WindowId) : EventsKept s (t.holdReaches w) := h.frame (by simp)

theorem doHold (h : EventsKept s t) (a : Word) : EventsKept s (State.doHold a t) := by
  refine .ite ?_ (h.finish _ _)
  split
  · exact h.finish _ _
  · split
    · exact ((h.holdReady _).holdReaches _).finish _ _
    · exact h.finish _ _
    · exact (h.raise _).finish _ _

theorem doRelease (h : EventsKept s t) (a : Word) : EventsKept s (State.doRelease a t) := by
  refine .ite ?_ (h.finish _ _)
  split
  · exact h.finish _ _
  · split
    · exact h.finish _ _
    · exact (h.frame (by simp)).finish _ _
    · exact (h.frame (by simp)).finish _ _

theorem doTakeNote (h : EventsKept s t) (a : Word) : EventsKept s (State.doTakeNote a t) := by
  refine .ite (h.finish _ _) ?_
  split
  · exact h.finish _ _
  · refine frame (t := { t with host := { t.host with busy := true } }) ?_ (by simp)
    exact h

theorem doBusReset (h : EventsKept s t) : EventsKept s t.doBusReset :=
  .ite ((h.frame (by simp)).finish _ _) (h.finish _ _)

theorem doRingRestart (h : EventsKept s t) : EventsKept s t.doRingRestart :=
  .ite ((h.frame (by simp)).writerAsk.finish _ _) (h.finish _ _)

/-- Every command code but SOFT_RESET's; the cases are numbered as the codes are (12.1). -/
theorem commandWrite (h : EventsKept s t) {code : Byte} (other : code ≠ codeSoftReset) :
    EventsKept s (t.commandWrite code) := by
  unfold State.commandWrite
  split
  case h_1 => exact h.takeCommand fun a h => h.doJoin a
  case h_2 => exact h.takeCommand fun _ h => h.doLeave
  case h_3 three => exact absurd (BitVec.eq_of_toNat_eq three) other
  case h_4 => exact h.takeCommand fun a h => h.doPeerReset a
  case h_5 => exact h.takeCommand fun a h => h.doPost a
  case h_6 => exact h.takeCommand fun a h => h.doCancel a
  case h_7 => exact h.takeCommand fun a h => h.doStopStanding a
  case h_8 => exact h.takeCommand fun a h => h.doHold a
  case h_9 => exact h.takeCommand fun a h => h.doRelease a
  case h_10 => exact h.takeCommand fun a h => h.doTakeNote a
  case h_11 => exact h.takeCommand fun _ h => h.doBusReset
  case h_12 => exact h.takeCommand fun _ h => h.doRingRestart
  case h_13 => exact h.takeCommand fun _ h => h.finish _ _

theorem writeConsumer (h : EventsKept s t) (value : Word) : EventsKept s (t.writeConsumer value) :=
  .ite (.ite h h) h

/-! ### Rounds, trigger lines and timers -/

theorem edge (h : EventsKept s t) (l : TriggerLine) : EventsKept s (t.edge l) :=
  raiseIf (foldl (fun _ h => h.frame (by simp)) _ h) _ _

theorem heldByOther (h : EventsKept s t) : EventsKept s t.heldByOther := h.frame (by simp)

theorem answerExpired (h : EventsKept s t) : EventsKept s t.answerExpired :=
  peerNoAnswer (.ite (h.frame (by simp)) ((h.frame (by simp)).entryUnanswered _)) _

end State.EventsKept

/-! ### The Selector leaves the Host Interface as it is (R65) -/

theorem State.host_of_takeQueueHead {s t : State} {w : Want} (pick : s.takeQueueHead = some (t, w)) :
    t.host = s.host := by
  unfold State.takeQueueHead at pick
  split at pick
  · cases pick
  · obtain ⟨e, -, taken⟩ := Option.map_eq_some_iff.mp pick
    cases taken
    rfl

theorem State.host_of_openWant {s t : State} {w : Want} (pick : s.openWant = some (t, w)) : t.host = s.host := by
  unfold State.openWant at pick
  split at pick
  · cases pick
  · split at pick
    · split at pick
      · cases pick
      · cases pick; rfl
    · split at pick
      · cases pick
      · cases pick; rfl

theorem State.host_of_pickWant {s t : State} {w : Want} (pick : s.pickWant = some (t, w)) : t.host = s.host := by
  unfold State.pickWant at pick
  split at pick
  · split at pick
    · cases pick; rfl
    · cases pick
  · split at pick
    · cases pick; rfl
    · obtain head | ⟨-, opened⟩ := Option.or_eq_some_iff.mp pick
      · exact State.host_of_takeQueueHead head
      · exact State.host_of_openWant opened

theorem State.host_of_roundEntry? {s t : State} {w : Want} (entry : s.roundEntry? = some (t, w)) :
    t.host = s.host := by
  unfold State.roundEntry? at entry
  split at entry
  · exact State.host_of_pickWant entry
  · cases entry

namespace State.EventsKept

variable {s t : State}

theorem contend (h : EventsKept s t) : EventsKept s t.contend := by
  unfold State.contend
  split
  case h_1 entry => exact (h.frame (State.host_of_roundEntry? entry)).frame (by simp)
  case h_2 => exact h

theorem answeringMeetsRound (h : EventsKept s t) : EventsKept s t.answeringMeetsRound := by
  refine (answeringEnds (.ite ?_ h)).drainTest
  split
  · exact .ite h (h.sentLost _)
  · exact h

theorem roundBegins (h : EventsKept s t) : EventsKept s t.roundBegins := by
  refine .ite ?_ h
  split
  case h_1 entry => exact (h.frame (State.host_of_roundEntry? entry)).frame (by simp)
  case h_2 => exact (h.frame (by simp)).answeringMeetsRound

end State.EventsKept

/-! ### Every command but those that clear the registers or write them -/

/-- A command that goes on goes on to a state that keeps the events of `s`. -/
def State.ResultKeepsEvents (s : State) (r : Result) : Prop := ∀ t, r = .next t → s.EventsKept t

theorem State.ResultKeepsEvents.next {s t : State} (h : s.EventsKept t) : s.ResultKeepsEvents (.next t) := by
  intro u e
  cases e
  exact h

/-- The commands that may clear a flag or change an enable are power-on, SOFT_RESET and the writes to a register. -/
theorem exec_keepsEvents {c : Instr} (s : State) (power : ∀ levels resetLine, c ≠ .powerOn levels resetLine)
    (soft : c ≠ .softReset) (softCode : c ≠ .undefinedCommandCode 3)
    (events : ∀ v, c ≠ .eventWrite v ∧ c ≠ .eventEnableWrite v) (register : ∀ offset v, c ≠ .registerWrite offset v) :
    s.ResultKeepsEvents (exec c s) := by
  have kept : s.EventsKept s := .refl s
  cases c with
  | join => exact .next (kept.takeCommand fun a h => h.doJoin a)
  | leave => exact .next (kept.takeCommand fun _ h => h.doLeave)
  | softReset => exact absurd rfl soft
  | peerReset => exact .next (kept.takeCommand fun a h => h.doPeerReset a)
  | post => exact .next (kept.takeCommand fun a h => h.doPost a)
  | cancel => exact .next (kept.takeCommand fun a h => h.doCancel a)
  | stopStanding => exact .next (kept.takeCommand fun a h => h.doStopStanding a)
  | hold => exact .next (kept.takeCommand fun a h => h.doHold a)
  | release => exact .next (kept.takeCommand fun a h => h.doRelease a)
  | takeNote => exact .next (kept.takeCommand fun a h => h.doTakeNote a)
  | busReset => exact .next (kept.takeCommand fun _ h => h.doBusReset)
  | ringRestart => exact .next (kept.takeCommand fun _ h => h.doRingRestart)
  | undefinedCommandCode code =>
    have other : code ≠ codeSoftReset := fun e => softCode (congrArg _ e)
    exact .next (kept.commandWrite other)
  | ringConsumerWrite value => exact .next (kept.writeConsumer value)
  | eventWrite value => exact absurd rfl (events value).1
  | eventEnableWrite value => exact absurd rfl (events value).2
  | registerWrite offset value => exact absurd rfl (register offset value)
  | powerOn levels resetLine => exact absurd rfl (power levels resetLine)
  | triggerEdge line => exact .next (.ite kept ((kept.frame (by simp)).edge line))
  | triggerLineFalls line => exact .next (kept.frame (by simp))
  | resetLineAsserted => exact .next (.ite kept kept.busReset)
  | resetLineFalls => exact .next (.ite (kept.frame (by simp)) kept)
  | resetPulseEnds => exact .next (kept.frame (by simp))
  | holdLineDriven => exact .next (.ite kept.answeringEnds.heldByOther.drainTest kept)
  | releaseGapExpires | restGap | turnGapExpires => exact .next (.ite (kept.frame (by simp)) kept)
  | contend => exact .next kept.contend
  | roundBegins => exact .next kept.roundBegins
  | roundWon => exact .next (kept.frame (by simp))
  | roundLost | roundNoWinner | roundEnds => exact .next (.ite (kept.frame (by simp)) kept)
  | frameBadCrc bytes =>
    refine .next ?_
    split
    · exact kept.receiveFrame _
    · exact kept
  | connectReceived | acceptReceived | refuseReceived | dataReceived | ackReceived | nakReceived | finishReceived
  | disconnectReceived | endReceived | resumeReceived | withdrawReceived | abortReceived | rollcallReceived
  | presentReceived => exact .next (kept.receive _ _)
  | frameSentGood =>
    refine .next ?_
    split
    · exact kept.sentGood _
    · exact kept
  | collisionDetected =>
    refine .next ?_
    split
    · exact kept.sentLost _
    · exact kept
  | sendData | sendAck | sendAbort => exact .next (kept.frame (by simp))
  | holdLineReleased => exact .next kept.releaseSeen.drainTest
  | answerTimeout => exact .next (.ite kept.answerExpired.drainTest kept)
  | ackTimeout => exact .next (.ite (.ite (kept.frame (by simp)) (kept.frame (by simp))) kept)
  | silenceTimeout => exact .next (.ite (.ite (kept.frame (by simp)) kept.endSilent.drainTest) kept)
  | closeTimeout => exact .next (.ite kept.closeExpired.drainTest kept)
  | resumeDeadlineExpires | parkTimerExpires => exact .next (.ite (kept.frame (by simp)) kept)
  | rollcallTimerExpires => exact .next (.ite kept.goOnline kept)
  | localTransactionEnds bytes => exact .next (kept.transactionEnds bytes)
  | localBusError => exact .next kept.transactionFails
  | descriptorLoadEnds bytes =>
    refine .next ?_
    split
    · exact kept.transactionEnds bytes
    · exact kept
  | configLoadEnds bytes =>
    refine .next ?_
    split
    · exact kept.transactionEnds bytes
    · exact kept
  | payloadReadEnds | payloadStoreEnds | segmentEntryFetched | completionRecordWritten | copyOutEnds =>
    exact .next (.ite (kept.transactionEnds _) kept)
  | writerTakesRecord => exact .next kept.takeRecord
  | drainComplete => exact .next kept.drainTest

/-! ### The interrupt line (R169) -/

/-- Each of the eleven bits of EVENT and EVENT_ENABLE belongs to an event (12.1). -/
theorem Event.exists_bit_eq {i : Nat} (h : i < 11) : ∃ e : Event, e.bit = i := by
  interval_cases i
  · exact ⟨.completion, rfl⟩
  · exact ⟨.noteArrived, rfl⟩
  · exact ⟨.windowHeld, rfl⟩
  · exact ⟨.serviceDropped, rfl⟩
  · exact ⟨.peerSilent, rfl⟩
  · exact ⟨.stateChanged, rfl⟩
  · exact ⟨.collision, rfl⟩
  · exact ⟨.standingOverrun, rfl⟩
  · exact ⟨.ringFault, rfl⟩
  · exact ⟨.busResetSeen, rfl⟩
  · exact ⟨.commandDone, rfl⟩

theorem State.irq_iff (s : State) :
    s.irq = true ↔ ∃ e : Event, s.flag e = true ∧ s.host.enable.getLsbD e.bit = true := by
  have irq_iff_ne : s.irq = true ↔ s.host.event &&& s.host.enable ≠ 0#11 := decide_eq_true_iff
  rw [irq_iff_ne]
  constructor
  · intro asserted
    by_contra none
    refine asserted (BitVec.eq_of_getLsbD_eq fun i hi => ?_)
    obtain ⟨e, rfl⟩ := Event.exists_bit_eq hi
    have unset : ¬ (s.flag e = true ∧ s.host.enable.getLsbD e.bit = true) := fun both => none ⟨e, both⟩
    simpa [State.flag] using unset
  · rintro ⟨e, set, enabled⟩ zero
    have bit : (s.host.event &&& s.host.enable).getLsbD e.bit = true := by
      simpa [State.flag] using ⟨set, enabled⟩
    simp [zero] at bit

theorem State.flag_raise_self (s : State) (e : Event) : (s.raise e).flag e = true := by
  cases e <;> simp [State.flag, Event.bit, Event.mask]

theorem State.irq_eq_false_of_no_event {s : State} (none : s.host.event = 0) : s.irq = false := by
  simp [State.irq, none]

/-! ### EVENT_ENABLE -/

theorem State.writeEnable_getLsbD (s : State) (value : Word) {i : Nat} (h : i < 11) :
    (s.writeEnable value).host.enable.getLsbD i = value.getLsbD i := by
  simp [h]

/-- The low eleven bits of a word, the others 0. -/
theorem setWidth_setWidth_eq_and (value : Word) : (value.setWidth 11).setWidth 32 = value &&& 0x7FF#32 := by
  refine BitVec.eq_of_toNat_eq ?_
  have low : value.toNat &&& 2 ^ 11 - 1 = value.toNat % 2 ^ 11 := Nat.and_two_pow_sub_one_eq_mod _ 11
  have small : value.toNat % 2 ^ 11 < 2 ^ 32 := by omega
  rw [BitVec.toNat_setWidth, BitVec.toNat_setWidth, BitVec.toNat_and, Nat.mod_eq_of_lt small]
  exact low.symm

/-- EVENT_ENABLE reads back with its eleven bits, the others 0. -/
theorem State.readRegister_writeEnable (s : State) (value : Word) :
    (s.writeEnable value).readRegister 0x14 = some (value &&& 0x7FF#32) :=
  congrArg some (setWidth_setWidth_eq_and value)

/-- Settles O27: the line is a fact about the bits of the two registers, and the frame is `exec_keepsEvents`. -/
theorem eventEnable : Obligations.EventEnable := by
  refine ⟨fun s value => ⟨?write, s.irq_iff, s.flag_raise_self⟩, ?cleared, ?kept⟩
  case write =>
    exact ⟨s.writeEnable value, rfl, rfl, fun i => s.writeEnable_getLsbD value, s.readRegister_writeEnable value⟩
  case cleared =>
    rintro s t levels resetLine (soft | power)
    · cases soft
      exact ⟨rfl, rfl, State.irq_eq_false_of_no_event rfl⟩
    · cases power
      exact ⟨rfl, rfl, State.irq_eq_false_of_no_event rfl⟩
  case kept =>
    intro c s t next power soft softCode events register
    exact exec_keepsEvents s power soft softCode events register t next

end Sys2Proof.Machine
end

section
/-! Moves of the Exchange Table: the few kinds of change from which every command's change of the slots and their two lists
is made, and what each kind keeps (R7, R8, R15, R22). -/

namespace Sys2Proof.Machine

/-- A repetition has begun, and its record is not written yet. -/
def Slot.inRepetition (x : Slot) : Prop :=
  x.state = .queued ∨ x.state = .selected ∨ x.state = .active ∨ x.state = .disconnected ∨ x.state = .finished

/-- A slot of the table. -/
def Scheduler.slot (c : Scheduler) (i : SlotId) : Slot := c.slots[i]

/-- What slot `x` may become while its repetition lasts: confirmed progress does not fall (R15). -/
def Slot.goesOnAs (x y : Slot) : Prop := x.inRepetition → y.inRepetition ∧ x.progress ≤ y.progress

/-- A change of the Exchange Table; `j` is the slot whose record is written in this step, if one is. -/
inductive Scheduler.Move (j : Option SlotId) (c : Scheduler) : Scheduler → Prop
  /-- A slot keeps its state. -/
  | edit (i : SlotId) (x : Slot) (state : x.state = (c.slot i).state) (rep : (c.slot i).goesOnAs x) : Move j c (c.put i x)
  /-- A slot goes between states that neither list names and that are not SELECTED. -/
  | pass (i : SlotId) (x : Slot) (old : (c.slot i).state ≠ .queued ∧ (c.slot i).state ≠ .finished)
      (new : x.state ≠ .queued ∧ x.state ≠ .finished ∧ x.state ≠ .selected) (rep : (c.slot i).goesOnAs x) :
      Move j c (c.put i x)
  /-- A slot enters FINISHED (R22). -/
  | finish (i : SlotId) (o : ExchangeOutcome) (more : Bool)
      (old : (c.slot i).state.live = true ∨ (c.slot i).state = .loading) : Move j c (c.ended i o more)
  /-- A slot enters QUEUED (R7). -/
  | queue (i : SlotId)
      (old : (c.slot i).state = .loading ∨ (c.slot i).state = .armed ∨ (c.slot i).state = .selected) :
      Move j c (c.queued i (c.slot i))
  /-- The head of the ready list is SELECTED (R8). -/
  | select (i : SlotId) (rest : List SlotId) (head : c.ready = i :: rest) (none : ∀ k : SlotId, (c.slot k).state ≠ .selected) :
      Move j c { c.put i { c.slot i with state := .selected, callOut := false } with ready := rest }
  /-- A record is written: the slot leaves the finished list (R23, R136). -/
  | write (i : SlotId) (x : Slot) (written : j = some i) (old : (c.slot i).state = .finished)
      (new : x.state ≠ .queued ∧ x.state ≠ .finished ∧ x.state ≠ .selected) :
      Move j c { c.put i x with finished := c.finished.erase i }

/-- Any number of such changes, one after the other. -/
def Scheduler.Moves (j : Option SlotId) : Scheduler → Scheduler → Prop := Relation.ReflTransGen (Scheduler.Move j)

/-! ### Reading the slots after a change -/

@[simp] theorem Scheduler.slot_put (c : Scheduler) (i k : SlotId) (x : Slot) :
    (c.put i x).slot k = if k = i then x else c.slot k := by
  simp only [Scheduler.slot, Scheduler.put, Fin.getElem_fin, Vector.getElem_set]
  by_cases h : k = i
  · simp [h]
  · have ne : (i : Nat) ≠ k := fun e => h (Fin.ext e.symm)
    simp [h, ne]

@[simp] theorem Scheduler.slot_ended (c : Scheduler) (i k : SlotId) (o : ExchangeOutcome) (more : Bool) :
    (c.ended i o more).slot k = if k = i then (c.slot i).ended o more else c.slot k := c.slot_put i k _

@[simp] theorem Scheduler.slot_queued (c : Scheduler) (i k : SlotId) (x : Slot) :
    (c.queued i x).slot k = if k = i then { x with state := .queued, callOut := false } else c.slot k :=
  c.slot_put i k _

theorem Slot.goesOnAs_refl (x : Slot) : x.goesOnAs x := fun h => ⟨h, le_refl _⟩

/-! ### The two lists and the one SELECTED slot -/

/-- The Exchange Table's part of `SlotLists`. -/
def Scheduler.Lists (c : Scheduler) : Prop :=
  c.ready.Nodup ∧ c.finished.Nodup ∧ (∀ i : SlotId, i ∈ c.ready ↔ (c.slot i).state = .queued) ∧
    (∀ i : SlotId, i ∈ c.finished ↔ (c.slot i).state = .finished)

theorem slotLists_iff (s : State) : SlotLists s ↔ s.sched.Lists := Iff.rfl

/-- The Exchange Table's part of `OneSelected`. -/
def Scheduler.OneSelected (c : Scheduler) : Prop :=
  ∀ i k : SlotId, (c.slot i).state = .selected → (c.slot k).state = .selected → i = k

theorem oneSelected_iff (s : State) : Machine.OneSelected s ↔ s.sched.OneSelected := Iff.rfl

/-- A slot whose old and new state are in neither list may be replaced. -/
theorem Scheduler.Lists.put {c : Scheduler} (h : c.Lists) {i : SlotId} {x : Slot}
    (queued : x.state = .queued ↔ (c.slot i).state = .queued)
    (finished : x.state = .finished ↔ (c.slot i).state = .finished) : (c.put i x).Lists := by
  obtain ⟨ready, done, inReady, inDone⟩ := h
  refine ⟨ready, done, fun k => (inReady k).trans ?_, fun k => (inDone k).trans ?_⟩ <;>
    · rw [slot_put]; split
      · subst k; simp only [queued, finished]
      · rfl

theorem nodup_append_singleton {α : Type} {l : List α} {a : α} (h : l.Nodup) (fresh : a ∉ l) : (l ++ [a]).Nodup :=
  List.concat_eq_append ▸ h.concat fresh

theorem SlotState.not_finished_of_live {x : SlotState} (h : x.live = true ∨ x = .loading) : x ≠ .finished := by
  rintro rfl
  simp [SlotState.live] at h

theorem Scheduler.Move.keeps_lists {j : Option SlotId} {c d : Scheduler} (m : c.Move j d) (h : c.Lists) : d.Lists := by
  have ⟨ready, done, inReady, inDone⟩ := h
  cases m with
  | edit i x state rep => exact h.put (by rw [state]) (by rw [state])
  | pass i x old new rep => exact h.put (by simp [old, new]) (by simp [old, new])
  | finish i o more old =>
    have fresh : i ∉ c.finished := fun m => SlotState.not_finished_of_live old ((inDone i).mp m)
    refine ⟨ready.erase i, nodup_append_singleton done fresh, fun k => ?_, fun k => ?_⟩
    · rw [slot_ended, show (c.ended i o more).ready = c.ready.erase i from rfl, ready.mem_erase_iff]
      by_cases e : k = i
      · simp [e, Slot.ended]
      · simp [e, inReady k]
    · rw [slot_ended, show (c.ended i o more).finished = c.finished ++ [i] from rfl, List.mem_append]
      by_cases e : k = i
      · simp [e, Slot.ended]
      · simp [e, inDone k]
  | queue i old =>
    have fresh : i ∉ c.ready := fun m => by simp [(inReady i).mp m] at old
    refine ⟨nodup_append_singleton ready fresh, done, fun k => ?_, fun k => ?_⟩
    · rw [slot_queued, show (c.queued i (c.slot i)).ready = c.ready ++ [i] from rfl, List.mem_append]
      by_cases e : k = i
      · simp [e]
      · simp [e, inReady k]
    · rw [slot_queued]
      by_cases e : k = i
      · have notDone : (c.slot i).state ≠ .finished := by rcases old with h | h | h <;> simp [h]
        simpa [e, Scheduler.queued, inDone i] using notDone
      · simp [e, Scheduler.queued, inDone k]
  | select i rest head none =>
    have ⟨fresh, restNodup⟩ := List.nodup_cons.mp (head ▸ ready)
    have queued : (c.slot i).state = .queued := (inReady i).mp (by simp [head])
    refine ⟨restNodup, done, fun k => ?_, fun k => (inDone k).trans ?_⟩
    · have old := inReady k
      rw [head, List.mem_cons] at old
      change k ∈ rest ↔ ((c.put i _).slot k).state = .queued
      rw [slot_put]
      by_cases e : k = i
      · simp [e, fresh]
      · simpa [e] using old
    · change _ ↔ ((c.put i _).slot k).state = .finished
      rw [slot_put]
      by_cases e : k = i
      · simp [e, queued]
      · simp [e]
  | write i x written old new =>
    refine ⟨ready, done.erase i, fun k => (inReady k).trans ?_, fun k => ?_⟩
    · change _ ↔ ((c.put i x).slot k).state = .queued
      rw [slot_put]
      by_cases e : k = i
      · simp [e, old, new]
      · simp [e]
    · change k ∈ c.finished.erase i ↔ ((c.put i x).slot k).state = .finished
      rw [slot_put, done.mem_erase_iff, inDone k]
      by_cases e : k = i
      · simp [e, new]
      · simp [e]

/-- A change that lets no slot become SELECTED keeps the one there is. -/
theorem Scheduler.OneSelected.of_imp {c d : Scheduler} (h : c.OneSelected)
    (old : ∀ k : SlotId, (d.slot k).state = .selected → (c.slot k).state = .selected) : d.OneSelected :=
  fun i k si sk => h i k (old i si) (old k sk)

theorem Scheduler.Move.keeps_oneSelected {j : Option SlotId} {c d : Scheduler} (m : c.Move j d) (h : c.OneSelected) :
    d.OneSelected := by
  have putKeeps {i : SlotId} {x : Slot} (imp : x.state = .selected → (c.slot i).state = .selected) (k : SlotId) :
      ((c.put i x).slot k).state = .selected → (c.slot k).state = .selected := by
    rw [slot_put]
    split
    · next e => subst e; exact imp
    · exact id
  cases m with
  | edit i x state rep => exact h.of_imp (putKeeps fun e => state ▸ e)
  | pass i x old new rep => exact h.of_imp (putKeeps fun e => absurd e new.2.2)
  | finish i o more old => exact h.of_imp (putKeeps fun e => by simp [Slot.ended] at e)
  | queue i old => exact h.of_imp (putKeeps fun e => by simp at e)
  | write i x written old new => exact h.of_imp (putKeeps fun e => absurd e new.2.2)
  | select i rest head none =>
    have only (k : SlotId) (sel : ((c.put i { c.slot i with state := .selected, callOut := false }).slot k).state =
        .selected) : k = i := by
      rw [slot_put] at sel
      by_contra ne
      exact none k (by simpa [ne] using sel)
    exact fun a b sa sb => (only a sa).trans (only b sb).symm

/-! ### Progress within a repetition (R15) -/

/-- A change that does not write the record of slot `k` lets its progress stand or rise. -/
theorem Scheduler.Move.goesOn {j : Option SlotId} {c d : Scheduler} (m : c.Move j d) {k : SlotId} (other : j ≠ some k) :
    (c.slot k).goesOnAs (d.slot k) := by
  have atPut {i : SlotId} {x : Slot} (rep : (c.slot i).goesOnAs x) : (c.slot k).goesOnAs ((c.put i x).slot k) := by
    rw [slot_put]
    split
    · next e => subst e; exact rep
    · exact Slot.goesOnAs_refl _
  cases m with
  | edit i x state rep => exact atPut rep
  | pass i x old new rep => exact atPut rep
  | finish i o more old => exact atPut fun _ => ⟨by simp [Slot.inRepetition, Slot.ended], le_refl _⟩
  | queue i old => exact atPut fun _ => ⟨by simp [Slot.inRepetition], le_refl _⟩
  | select i rest head none => exact atPut fun _ => ⟨by simp [Slot.inRepetition], le_refl _⟩
  | write i x written old new =>
    have ne : k ≠ i := fun e => other (e ▸ written)
    change (c.slot k).goesOnAs ((c.put i x).slot k)
    rw [slot_put, if_neg ne]
    exact Slot.goesOnAs_refl _

/-! ### Any number of changes -/

theorem Scheduler.Moves.keeps {j : Option SlotId} {c d : Scheduler} {P : Scheduler → Prop} (m : c.Moves j d)
    (step : ∀ {a b : Scheduler}, a.Move j b → P a → P b) (h : P c) : P d := by
  induction m with
  | refl => exact h
  | tail _ last ih => exact step last ih

theorem Scheduler.Moves.goesOn {j : Option SlotId} {c d : Scheduler} (m : c.Moves j d) {k : SlotId} (other : j ≠ some k) :
    (c.slot k).goesOnAs (d.slot k) := by
  induction m with
  | refl => exact Slot.goesOnAs_refl _
  | tail _ last ih =>
    intro rep
    obtain ⟨rep', le⟩ := ih rep
    obtain ⟨rep'', le'⟩ := last.goesOn other rep'
    exact ⟨rep'', le.trans le'⟩

end Sys2Proof.Machine
end

section
/-! Moves of the Service Unit: the few kinds of change from which every command's change of the windows, the entries and the
resume queue is made, and what each kind keeps (R31, R35, R37, R41, R43, R45). -/

namespace Sys2Proof.Machine

/-! ### Operations on the Service Unit's block -/

/-- A window of the table. -/
def Service.window (v : Service) (w : WindowId) : Window := v.windows[w]

def Service.entry? (v : Service) (k : Key) : Option Entry := v.entries.find? fun e => e.key = k

/-- Change the entries of a key. -/
def Service.edit (v : Service) (k : Key) (f : Entry → Entry) : Service :=
  { v with entries := v.entries.map fun e => if e.key = k then f e else e }

def Service.setHold (v : Service) (w : WindowId) (h : HoldState) : Service :=
  { v with windows := v.windows.set w { v.window w with hold := h } }

/-- The entry of a key, now `f` of itself, joins the tail of the resume queue (R37, R44). -/
def Service.requeue (v : Service) (k : Key) (stamp : Option Nat) (f : Entry → Entry) : Service :=
  { v with
    entries := (closeStamp stamp v.entries).map fun x =>
      if x.key = k then { f x with stamp := none, parkTimer := none } else x
    queue := v.queue.erase k ++ [k] }

/-- The entry of a key is PARKED with the next stamp (R45). -/
def Service.park (v : Service) (k : Key) (timer : Timer) : Service :=
  { v with
    entries := v.entries.map fun x =>
      if x.key = k then { x with state := .parked, stamp := some (parkedCount v.entries + 1), parkTimer := timer } else x
    queue := v.queue.erase k }

/-- The entry of a key leaves the table (R35). -/
def Service.remove (v : Service) (k : Key) (stamp : Option Nat) : Service :=
  { v with entries := closeStamp stamp (v.entries.filter fun x => x.key ≠ k), queue := v.queue.erase k }

/-- What an entry gives to the invariants: all but its counters, timers and progress. -/
def Entry.sameRole (e f : Entry) : Prop :=
  f.key = e.key ∧ f.state = e.state ∧ f.window = e.window ∧ f.stamp = e.stamp ∧ f.reservation = e.reservation

/-- A change of the Service Unit. -/
inductive Service.Move (v : Service) : Service → Prop
  /-- Counters and progress of an entry. -/
  | edit (k : Key) (f : Entry → Entry) (same : ∀ e : Entry, e.sameRole (f e)) : Move v (v.edit k f)
  /-- A RESUMING entry on a READY window is CONNECTED (R38). -/
  | connect (k : Key) (e : Entry) (found : v.entry? k = some e) (old : e.state = .resuming)
      (ready : (v.window e.window).hold = .ready) :
      Move v (v.edit k fun x => { x with state := .connected, noAnswers := 0 })
  /-- An entry is READY or WITHDRAW_DUE (R37). -/
  | requeue (k : Key) (e : Entry) (f : Entry → Entry) (found : v.entry? k = some e)
      (same : ∀ x : Entry, (f x).key = x.key ∧ (f x).window = x.window ∧ (f x).waits = true)
      (ready : ∀ x : Entry, x.window = e.window → (f x).state = .ready → (v.window e.window).hold = .ready) :
      Move v (v.requeue k e.stamp f)
  | park (k : Key) (e : Entry) (timer : Timer) (found : v.entry? k = some e) (old : e.state ≠ .parked) :
      Move v (v.park k timer)
  | remove (k : Key) (e : Entry) (found : v.entry? k = some e) : Move v (v.remove k e.stamp)
  /-- The head of the resume queue is taken (R37). -/
  | take (k : Key) (e : Entry) (rest : List Key) (head : v.queue = k :: rest) (found : v.entry? k = some e) :
      Move v { v.edit k fun x => { x with state := if e.state = .withdrawDue then .withdrawing else .resuming } with
        queue := rest }
  /-- A window's hold state changes, where no entry on it forbids that (R41, R43). -/
  | setHold (w : WindowId) (h : HoldState)
      (ready : (v.window w).hold = .ready → h ≠ .ready → ∀ e ∈ v.entries, e.window = w → e.state ≠ .ready)
      (held : h = .held → ∀ e ∈ v.entries, e.keeps w = false) : Move v (v.setHold w h)
  /-- Every window READY (R28). -/
  | windows (ws : Vector Window 8) (ready : ∀ w : WindowId, ws[w].hold = .ready) : Move v { v with windows := ws }
  /-- The table is emptied (R47, R49). -/
  | clear : Move v { v with entries := [], queue := [] }
  /-- A new entry (R34). -/
  | add (e : Entry) (fresh : ∀ x ∈ v.entries, x.key ≠ e.key) (room : v.entries.length < Config.serviceEntries)
      (state : (e.state = .connected ∧ e.stamp = none ∧ (v.window e.window).hold = .ready) ∨
        (e.state = .parked ∧ e.stamp = some (parkedCount v.entries + 1))) :
      Move v { v with entries := v.entries ++ [e] }

def Service.Moves : Service → Service → Prop := Relation.ReflTransGen Service.Move

/-! ### Entries of a table with distinct keys -/

/-- The Service Unit's part of `ServiceTable`. -/
def Service.Table (v : Service) : Prop :=
  v.entries.length ≤ Config.serviceEntries ∧ (v.entries.map (·.key)).Nodup ∧ v.queue.Nodup ∧
    (∀ k ∈ v.queue, ∃ e ∈ v.entries, e.key = k ∧ e.waits = true) ∧
    (∀ e ∈ v.entries, e.waits = true → e.key ∈ v.queue)

theorem serviceTable_iff (s : State) : ServiceTable s ↔ s.service.Table := Iff.rfl

theorem Service.entry?_mem {v : Service} {k : Key} {e : Entry} (found : v.entry? k = some e) : e ∈ v.entries ∧ e.key = k :=
  ⟨List.mem_of_find?_eq_some found, by simpa using List.find?_some found⟩

theorem Service.entry?_eq_none {v : Service} {k : Key} (none : v.entry? k = none) : ∀ e ∈ v.entries, e.key ≠ k := by
  simpa [Service.entry?] using none

theorem Service.Table.unique {v : Service} (h : v.Table) {e f : Entry} (he : e ∈ v.entries) (hf : f ∈ v.entries)
    (key : e.key = f.key) : e = f := List.inj_on_of_nodup_map h.2.1 he hf key

theorem Service.Table.entry?_of_mem {v : Service} (h : v.Table) {e : Entry} (he : e ∈ v.entries) :
    v.entry? e.key = some e :=
  find?_eq_some_of_unique he (by simp) fun f hf key => h.unique hf he (by simpa using key)

/-- The entry of a key stands alone between the others. -/
theorem Service.Table.split {v : Service} (h : v.Table) {k : Key} {e : Entry} (found : v.entry? k = some e) :
    ∃ before after, v.entries = before ++ e :: after ∧ (∀ x ∈ before, x.key ≠ k) ∧ ∀ x ∈ after, x.key ≠ k := by
  obtain ⟨mem, key⟩ := Service.entry?_mem found
  obtain ⟨before, after, split⟩ := List.append_of_mem mem
  have distinct := h.2.1
  rw [split, List.map_append, List.map_cons, List.nodup_middle, List.nodup_cons, key] at distinct
  have others : ∀ x, x ∈ before ∨ x ∈ after → x.key ≠ k := fun x hx e =>
    distinct.1 (List.mem_append.mpr (hx.imp (fun m => e ▸ List.mem_map_of_mem m) (fun m => e ▸ List.mem_map_of_mem m)))
  exact ⟨before, after, split, fun x hx => others x (.inl hx), fun x hx => others x (.inr hx)⟩

/-- What an entry becomes when the stamp `o` is given up (R45). -/
def Entry.lower (o : Option Nat) (e : Entry) : Entry :=
  match o with
  | none => e
  | some k => { e with stamp := e.stamp.map fun n => if n > k then n - 1 else n }

theorem closeStamp_eq_map (o : Option Nat) (es : List Entry) : closeStamp o es = es.map (Entry.lower o) := by
  cases o
  · exact (List.map_id'' (fun _ => rfl) es).symm
  · rfl

@[simp] theorem Entry.lower_frame (o : Option Nat) (e : Entry) :
    (e.lower o).key = e.key ∧ (e.lower o).state = e.state ∧ (e.lower o).window = e.window ∧
      (e.lower o).reservation = e.reservation ∧ (e.lower o).waits = e.waits ∧ (e.lower o).progress = e.progress ∧
      (e.lower o).length = e.length := by
  cases o <;> exact ⟨rfl, rfl, rfl, rfl, rfl, rfl, rfl⟩

/-- A change of the entries that leaves their keys, with a queue that holds exactly the entries that wait then. -/
theorem Service.Table.map {v : Service} (h : v.Table) {g : Entry → Entry} {ws : Vector Window 8} {queue : List Key}
    (key : ∀ e, (g e).key = e.key) (nodup : queue.Nodup)
    (waiting : ∀ k ∈ queue, ∃ e ∈ v.entries, e.key = k ∧ (g e).waits = true)
    (queued : ∀ e ∈ v.entries, (g e).waits = true → e.key ∈ queue) :
    ({ windows := ws, entries := v.entries.map g, queue := queue } : Service).Table := by
  have keys : (v.entries.map g).map (·.key) = v.entries.map (·.key) := by simp [key]
  refine ⟨by simpa using h.1, keys ▸ h.2.1, nodup, fun k hk => ?_, fun e he waits => ?_⟩
  · obtain ⟨e, he, hkey, waits⟩ := waiting k hk
    exact ⟨g e, List.mem_map_of_mem he, (key e).trans hkey, waits⟩
  · obtain ⟨x, hx, rfl⟩ := List.mem_map.mp he
    exact key x ▸ queued x hx waits

/-- The entry of one key changes and waits no more; the others stay as they are. -/
theorem Service.Table.unqueue {v : Service} (h : v.Table) {k : Key} {ws : Vector Window 8} {f g : Entry → Entry}
    (fkey : ∀ e, (f e).key = e.key) (fwaits : ∀ e, (f e).waits = false) (gkey : ∀ e, (g e).key = e.key)
    (gwaits : ∀ e, (g e).waits = e.waits) :
    ({ windows := ws, entries := v.entries.map fun e => if e.key = k then f e else g e,
       queue := v.queue.erase k } : Service).Table := by
  have ⟨_, _, nodup, waiting, queued⟩ := h
  refine h.map (fun e => by split <;> simp [fkey, gkey]) (nodup.erase k) (fun q hq => ?_) (fun e he waits => ?_)
  · obtain ⟨ne, hq⟩ := nodup.mem_erase_iff.mp hq
    obtain ⟨e, he, key, waits⟩ := waiting q hq
    exact ⟨e, he, key, by rw [if_neg (key ▸ ne), gwaits, waits]⟩
  · split at waits
    · simp [fwaits] at waits
    · next ne => exact nodup.mem_erase_iff.mpr ⟨ne, queued e he (gwaits e ▸ waits)⟩

theorem Service.Move.keeps_table {v u : Service} (m : v.Move u) (h : v.Table) : u.Table := by
  have ⟨room, keys, nodup, waiting, queued⟩ := h
  cases m with
  | edit k f same =>
    have waits (e : Entry) : (if e.key = k then f e else e).waits = e.waits := by
      obtain ⟨-, state, -⟩ := same e
      split <;> simp [Entry.waits, state]
    refine h.map (fun e => by split <;> simp [(same e).1]) nodup (fun q hq => ?_) fun e he w => queued e he (waits e ▸ w)
    obtain ⟨e, he, key, w⟩ := waiting q hq
    exact ⟨e, he, key, (waits e).trans w⟩
  | connect k e found old ready =>
    have notQueued : k ∉ v.queue := fun hk => by
      obtain ⟨x, hx, key, waits⟩ := waiting k hk
      obtain ⟨he, hkey⟩ := Service.entry?_mem found
      rw [h.unique hx he (key.trans hkey.symm)] at waits
      simp [Entry.waits, old] at waits
    have := h.unqueue (k := k) (ws := v.windows) (f := fun x => { x with state := .connected, noAnswers := 0 })
      (g := id) (fun _ => rfl) (fun _ => rfl) (fun _ => rfl) (fun _ => rfl)
    rwa [List.erase_of_not_mem notQueued] at this
  | requeue k e f found same ready =>
    obtain ⟨he, hkey⟩ := Service.entry?_mem found
    have kept (x : Entry) : (if (x.lower e.stamp).key = k then
        { f (x.lower e.stamp) with stamp := none, parkTimer := none } else x.lower e.stamp).waits =
        (if x.key = k then true else x.waits) := by
      by_cases c : x.key = k
      · simpa [c, Entry.waits] using (same (x.lower e.stamp)).2.2
      · simp [c]
    rw [Service.requeue, closeStamp_eq_map, List.map_map]
    refine h.map (fun x => ?_) ?_ (fun q hq => ?_) (fun x hx waits => ?_)
    · dsimp only [Function.comp]; split <;> simp [(same (x.lower e.stamp)).1]
    · exact nodup_append_singleton (nodup.erase k) nodup.not_mem_erase
    · rcases List.mem_append.mp hq with hq | hq
      · obtain ⟨x, hx, key, waits⟩ := waiting q (List.mem_of_mem_erase hq)
        exact ⟨x, hx, key, (kept x).trans (by simp [waits])⟩
      · exact ⟨e, he, hkey.trans (List.mem_singleton.mp hq).symm, (kept e).trans (by simp [hkey])⟩
    · by_cases c : x.key = k
      · simp [c]
      · have waits : x.waits = true := by simpa [c] using (kept x).symm.trans waits
        exact List.mem_append_left _ ((List.mem_erase_of_ne c).mpr (queued x hx waits))
  | park k e timer found old => exact h.unqueue (fun _ => rfl) (fun _ => rfl) (g := id) (fun _ => rfl) (fun _ => rfl)
  | remove k e found =>
    have sub : (v.entries.filter fun x => x.key ≠ k).Sublist v.entries := List.filter_sublist
    rw [Service.remove, closeStamp_eq_map]
    refine ⟨?_, ?_, nodup.erase k, fun q hq => ?_, fun x hx waits => ?_⟩
    · rw [List.length_map]; exact sub.length_le.trans room
    · rw [List.map_map, show ((·.key) ∘ Entry.lower e.stamp) = (·.key) from funext fun x => (x.lower_frame e.stamp).1]
      exact (sub.map _).nodup keys
    · obtain ⟨ne, hq⟩ := nodup.mem_erase_iff.mp hq
      obtain ⟨x, hx, key, waits⟩ := waiting q hq
      exact ⟨x.lower e.stamp, List.mem_map_of_mem (by simp [hx, key, ne]), by simp [key], by simp [waits]⟩
    · obtain ⟨y, hy, rfl⟩ := List.mem_map.mp hx
      obtain ⟨hy, ne⟩ := List.mem_filter.mp hy
      simp only [Entry.lower_frame] at waits ⊢
      exact nodup.mem_erase_iff.mpr ⟨by simpa using ne, queued y hy waits⟩
  | take k e rest head found =>
    have erase : v.queue.erase k = rest := by simp [head]
    have := h.unqueue (k := k) (ws := v.windows) (g := id)
      (f := fun x => { x with state := if e.state = .withdrawDue then .withdrawing else .resuming })
      (fun _ => rfl) (fun x => by dsimp only [Entry.waits]; split <;> rfl) (fun _ => rfl) (fun _ => rfl)
    rwa [erase] at this
  | setHold w hold ready held => exact h
  | windows ws ready => exact h
  | clear => exact ⟨Nat.zero_le _, List.nodup_nil, List.nodup_nil, by simp, by simp⟩
  | add e fresh room state =>
    have quiet : e.waits = false := by
      rcases state with ⟨c, -⟩ | ⟨c, -⟩ <;> simp [Entry.waits, c]
    refine ⟨by simpa using room, ?_, nodup, fun q hq => ?_, fun x hx waits => ?_⟩
    · rw [List.map_append]
      exact nodup_append_singleton keys (by simpa using fresh)
    · obtain ⟨x, hx, both⟩ := waiting q hq
      exact ⟨x, List.mem_append_left _ hx, both⟩
    · rcases List.mem_append.mp hx with hx | hx
      · exact queued x hx waits
      · simp [List.mem_singleton.mp hx, quiet] at waits

theorem Service.Moves.keeps {v u : Service} {P : Service → Prop} (m : v.Moves u) (table : v.Table)
    (step : ∀ {a b : Service}, a.Move b → a.Table → P a → P b) (h : P v) : P u := by
  have both : u.Table ∧ P u := by
    induction m with
    | refl => exact ⟨table, h⟩
    | tail _ last ih => exact ⟨last.keeps_table ih.1, step last ih.1 ih.2⟩
  exact both.2

theorem Service.Moves.keeps_table {v u : Service} (m : v.Moves u) (h : v.Table) : u.Table :=
  m.keeps h (fun last table _ => last.keeps_table table) h

end Sys2Proof.Machine
end

section
/-! The hold states (R41, R43) and the park order (R45) under the moves of the Service Unit. -/

namespace Sys2Proof.Machine

/-! ### Hold states -/

/-- The Service Unit's part of `HoldStates`. -/
def Service.Holds (v : Service) : Prop :=
  ∀ e ∈ v.entries, ((e.state = .connected ∨ e.state = .resuming) → (v.window e.window).hold ≠ .held) ∧
    (e.state = .ready → (v.window e.window).hold = .ready)

theorem holdStates_iff (s : State) : HoldStates s ↔ s.service.Holds := Iff.rfl

theorem Service.window_setHold (v : Service) (w u : WindowId) (h : HoldState) :
    (v.setHold w h).window u = if u = w then { v.window w with hold := h } else v.window u := by
  simp only [Service.window, Service.setHold, Fin.getElem_fin, Vector.getElem_set]
  by_cases e : u = w
  · simp [e]
  · have ne : (w : Nat) ≠ u := fun q => e (Fin.ext q.symm)
    simp [e, ne]

/-- The entries change with their windows as they are; `ok` says what each becomes. -/
theorem Service.Holds.map {v : Service} (h : v.Holds) {g : Entry → Entry} {queue : List Key}
    (window : ∀ e, (g e).window = e.window)
    (ok : ∀ e ∈ v.entries, (g e).state = e.state ∨ (g e).state = .parked ∨ (g e).state = .withdrawDue ∨
      (g e).state = .withdrawing ∨ (v.window e.window).hold = .ready) :
    ({ v with entries := v.entries.map g, queue := queue } : Service).Holds := by
  intro x hx
  obtain ⟨e, he, rfl⟩ := List.mem_map.mp hx
  obtain ⟨tenure, ready⟩ := h e he
  change (_ → (v.window _).hold ≠ .held) ∧ (_ → (v.window _).hold = .ready)
  rw [window]
  rcases ok e he with c | c | c | c | c
  · rw [c]; exact ⟨tenure, ready⟩
  · simp [c]
  · simp [c]
  · simp [c]
  · simp [c]

theorem Service.Move.keeps_holds {v u : Service} (m : v.Move u) (table : v.Table) (h : v.Holds) : u.Holds := by
  cases m with
  | edit k f same =>
    refine h.map (fun e => ?_) fun e he => .inl ?_ <;> obtain ⟨-, state, window, -⟩ := same e <;> split <;>
      simp [state, window]
  | connect k e found old ready =>
    refine h.map (fun x => by split <;> rfl) fun x hx => ?_
    by_cases c : x.key = k
    · obtain ⟨he, hkey⟩ := Service.entry?_mem found
      rw [table.unique hx he (c.trans hkey.symm)]
      simp [ready]
    · simp [c]
  | requeue k e f found same ready =>
    rw [Service.requeue, closeStamp_eq_map, List.map_map]
    refine h.map (fun x => ?_) fun x hx => ?_
    · dsimp only [Function.comp]; split <;> simp [(same (x.lower e.stamp)).2.1]
    · by_cases c : x.key = k
      · obtain ⟨he, hkey⟩ := Service.entry?_mem found
        obtain rfl := table.unique hx he (c.trans hkey.symm)
        have waits := (same (x.lower x.stamp)).2.2
        simp only [Entry.waits, Bool.or_eq_true, decide_eq_true_eq] at waits
        rcases waits with waits | waits
        · exact .inr (.inr (.inr (.inr (ready _ (by simp) waits))))
        · simp [c, waits]
      · simp [c]
  | park k e timer found old =>
    refine h.map (fun x => by split <;> rfl) fun x _ => ?_
    by_cases c : x.key = k <;> simp [c]
  | remove k e found =>
    intro x hx
    rw [Service.remove, closeStamp_eq_map] at hx
    obtain ⟨y, hy, rfl⟩ := List.mem_map.mp hx
    change (_ → (v.window _).hold ≠ .held) ∧ (_ → (v.window _).hold = .ready)
    simpa using h y (List.mem_filter.mp hy).1
  | take k e rest head found =>
    refine h.map (fun x => by split <;> rfl) fun x hx => ?_
    by_cases c : x.key = k
    · obtain ⟨he, hkey⟩ := Service.entry?_mem found
      obtain rfl := table.unique hx he (c.trans hkey.symm)
      obtain ⟨y, hy, key, waits⟩ := table.2.2.2.1 k (by simp [head])
      obtain rfl := table.unique hy he (key.trans hkey.symm)
      simp only [Entry.waits, Bool.or_eq_true, decide_eq_true_eq] at waits
      rcases waits with waits | waits
      · simp [(h y hy).2 waits]
      · simp [c, waits]
    · simp [c]
  | setHold w hold ready held =>
    intro e he
    have ⟨tenure, isReady⟩ := h e he
    rw [Service.window_setHold]
    split
    · next on =>
      refine ⟨fun keeps now => ?_, fun state => ?_⟩
      · have apart := held now e he
        simp only [Entry.keeps, on, decide_true, Bool.true_and, Bool.or_eq_false_iff, decide_eq_false_iff_not] at apart
        exact not_or.mpr apart keeps
      · by_contra notReady
        exact ready (on ▸ isReady state) notReady e he on state
    · exact ⟨tenure, isReady⟩
  | windows ws ready =>
    intro e _
    change (_ → (ws[e.window]).hold ≠ .held) ∧ (_ → (ws[e.window]).hold = .ready)
    simp only [ready]
    simp
  | clear => intro e he; cases he
  | add e fresh room state =>
    intro x hx
    rcases List.mem_append.mp hx with hx | hx
    · exact h x hx
    · obtain rfl := List.mem_singleton.mp hx
      change (_ → (v.window x.window).hold ≠ .held) ∧ (_ → (v.window x.window).hold = .ready)
      rcases state with ⟨c, -, ready⟩ | ⟨c, -⟩
      · simp [c, ready]
      · simp [c]

/-! ### Park order -/

/-- Stamps that are 1 up to their number, in any order. -/
theorem perm_range'_iff (l : List Nat) : l.Perm (List.range' 1 l.length) ↔ l.Nodup ∧ ∀ n ∈ l, 1 ≤ n ∧ n ≤ l.length := by
  constructor
  · intro perm
    refine ⟨perm.nodup_iff.mpr List.nodup_range', fun n hn => ?_⟩
    have := List.mem_range'_1.mp (perm.mem_iff.mp hn)
    omega
  · rintro ⟨nodup, bounds⟩
    refine (List.subperm_of_subset nodup fun n hn => ?_).perm_of_length_le (by simp)
    have := bounds n hn
    exact List.mem_range'_1.mpr (by omega)

/-- What is left of the stamps when one is given up (R45). -/
theorem perm_range'_closed {before after : List Nat} {k : Nat}
    (h : (before ++ k :: after).Perm (List.range' 1 (before ++ k :: after).length)) :
    ((before ++ after).map fun n => if n > k then n - 1 else n).Perm (List.range' 1 (before ++ after).length) := by
  obtain ⟨nodup, bounds⟩ := (perm_range'_iff _).mp h
  obtain ⟨fresh, nodup⟩ := List.nodup_cons.mp (List.nodup_middle.mp nodup)
  have bound : ∀ n ∈ before ++ after, 1 ≤ n ∧ n ≤ (before ++ after).length + 1 ∧ n ≠ k := fun n hn => by
    have := bounds n (by simp only [List.mem_append, List.mem_cons] at hn ⊢; tauto)
    simp only [List.length_append, List.length_cons] at this ⊢
    exact ⟨this.1, by omega, fun e => fresh (e ▸ hn)⟩
  have k_bound := bounds k (by simp)
  have := (perm_range'_iff ((before ++ after).map fun n => if n > k then n - 1 else n)).mpr ⟨?_, ?_⟩
  · simpa using this
  · refine nodup.map_on fun a ha b hb eq => ?_
    have := bound a ha
    have := bound b hb
    split at eq <;> split at eq <;> omega
  · intro m hm
    obtain ⟨n, hn, rfl⟩ := List.mem_map.mp hm
    have := bound n hn
    simp only [List.length_append, List.length_cons] at k_bound
    simp only [List.length_map, List.length_append] at this ⊢
    split <;> omega

/-- The next stamp joins the others (R45). -/
theorem perm_range'_next {l m : List Nat} (h : l.Perm (List.range' 1 l.length)) (perm : m.Perm ((l.length + 1) :: l)) :
    m.Perm (List.range' 1 m.length) := by
  have len : m.length = l.length + 1 := by simpa using perm.length_eq
  rw [len, List.range'_1_concat]
  exact perm.trans ((List.perm_append_singleton _ _).symm.trans (by simpa [Nat.add_comm] using h.append_right [l.length + 1]))

/-- The Service Unit's part of `ParkOrder`. -/
def Service.Parks (v : Service) : Prop :=
  (∀ e ∈ v.entries, e.state = .parked ↔ e.stamp.isSome = true) ∧
    (v.entries.filterMap (·.stamp)).Perm (List.range' 1 (parkedCount v.entries))

theorem parkOrder_iff (s : State) : ParkOrder s ↔ s.service.Parks := Iff.rfl

/-- Where exactly the PARKED entries carry stamps, there are as many stamps as PARKED entries. -/
theorem parkedCount_eq {es : List Entry} (h : ∀ e ∈ es, e.state = .parked ↔ e.stamp.isSome = true) :
    parkedCount es = (es.filterMap (·.stamp)).length := by
  induction es with
  | nil => rfl
  | cons e es ih =>
    have tail := ih fun x hx => h x (by simp [hx])
    have head := h e (by simp)
    simp only [parkedCount, List.filter_cons, List.filterMap_cons] at tail ⊢
    cases stamp : e.stamp <;> simp_all

theorem Service.parks_iff (v : Service) : v.Parks ↔ (∀ e ∈ v.entries, e.state = .parked ↔ e.stamp.isSome = true) ∧
    (v.entries.filterMap (·.stamp)).Perm (List.range' 1 (v.entries.filterMap (·.stamp)).length) :=
  and_congr_right fun h => by rw [parkedCount_eq h]

/-- A change of the entries that neither parks an entry nor takes a stamp. -/
theorem Service.Parks.map {v : Service} (h : v.Parks) {g : Entry → Entry} {queue : List Key} {ws : Vector Window 8}
    (same : ∀ e ∈ v.entries, (g e).stamp = e.stamp ∧ ((g e).state = .parked ↔ e.state = .parked)) :
    ({ windows := ws, entries := v.entries.map g, queue := queue } : Service).Parks := by
  obtain ⟨parked, perm⟩ := (v.parks_iff).mp h
  refine (Service.parks_iff _).mpr ⟨fun x hx => ?_, ?_⟩
  · obtain ⟨e, he, rfl⟩ := List.mem_map.mp hx
    rw [(same e he).1, (same e he).2]
    exact parked e he
  · have stamps : (v.entries.map g).filterMap (·.stamp) = v.entries.filterMap (·.stamp) := by
      rw [List.filterMap_map]
      exact List.filterMap_congr fun e he => (same e he).1
    rw [stamps]
    exact perm

theorem Entry.lower_stamp_isSome (o : Option Nat) (e : Entry) : (e.lower o).stamp.isSome = e.stamp.isSome := by
  cases o <;> simp [Entry.lower]

/-- The stamp of an entry that leaves PARKED, or leaves the table, is given up by the others. -/
theorem stamps_lowered {before after : List Entry} {e : Entry}
    (perm : ((before ++ e :: after).filterMap (·.stamp)).Perm
      (List.range' 1 ((before ++ e :: after).filterMap (·.stamp)).length)) :
    (((before ++ after).map (Entry.lower e.stamp)).filterMap (·.stamp)).Perm
      (List.range' 1 (((before ++ after).map (Entry.lower e.stamp)).filterMap (·.stamp)).length) := by
  cases stamp : e.stamp with
  | none =>
    have id' : ∀ es : List Entry, es.map (Entry.lower none) = es := List.map_id'' fun _ => rfl
    simpa [id', stamp] using perm
  | some k =>
    have lowered (es : List Entry) : (es.map (Entry.lower (some k))).filterMap (·.stamp) =
        (es.filterMap (·.stamp)).map fun n => if n > k then n - 1 else n := by
      rw [List.filterMap_map, List.map_filterMap]
      rfl
    simp only [List.filterMap_append, List.filterMap_cons, stamp] at perm
    rw [lowered, List.length_map, List.filterMap_append]
    exact perm_range'_closed perm

theorem Service.Move.keeps_parks {v u : Service} (m : v.Move u) (table : v.Table) (h : v.Parks) : u.Parks := by
  have ⟨parked, perm⟩ := v.parks_iff.mp h
  have unstamped {e : Entry} (he : e ∈ v.entries) (state : e.state ≠ .parked) : e.stamp = none := by
    simpa [state] using parked e he
  cases m with
  | edit k f same =>
    refine h.map fun e _ => ?_
    obtain ⟨-, state, -, stamp, -⟩ := same e
    split <;> simp [state, stamp]
  | connect k e found old ready =>
    refine h.map fun x hx => ?_
    by_cases c : x.key = k
    · obtain ⟨he, hkey⟩ := Service.entry?_mem found
      obtain rfl := table.unique hx he (c.trans hkey.symm)
      simp [c, old]
    · simp [c]
  | requeue k e f found same ready =>
    obtain ⟨before, after, split, hb, ha⟩ := table.split found
    have key : e.key = k := (Service.entry?_mem found).2
    have notParked : (f (e.lower e.stamp)).state ≠ .parked := fun c => by
      have := (same (e.lower e.stamp)).2.2
      simp [Entry.waits, c] at this
    have others {es : List Entry} (hes : ∀ x ∈ es, x.key ≠ k) :
        (es.map (Entry.lower e.stamp)).map (fun x => if x.key = k then
          { f x with stamp := none, parkTimer := none } else x) = es.map (Entry.lower e.stamp) := by
      rw [List.map_map]
      exact List.map_congr_left fun x hx => by simp [hes x hx]
    rw [split] at parked perm
    rw [Service.parks_iff, Service.requeue, closeStamp_eq_map, split]
    simp only [List.map_append, List.map_cons, others hb, others ha, Entry.lower_frame, key, if_true]
    refine ⟨fun x hx => ?_, ?_⟩
    · simp only [List.mem_append, List.mem_cons, List.mem_map] at hx
      rcases hx with ⟨y, hy, rfl⟩ | rfl | ⟨y, hy, rfl⟩
      · simpa [Entry.lower_stamp_isSome] using parked y (by simp [hy])
      · simp [notParked]
      · simpa [Entry.lower_stamp_isSome] using parked y (by simp [hy])
    · have := stamps_lowered perm
      simpa using this
  | park k e timer found old =>
    obtain ⟨before, after, split, hb, ha⟩ := table.split found
    obtain ⟨he, key⟩ := Service.entry?_mem found
    have noStamp : e.stamp = none := unstamped he old
    have count := parkedCount_eq parked
    have others {es : List Entry} (hes : ∀ x ∈ es, x.key ≠ k) :
        es.map (fun x => if x.key = k then
          { x with state := .parked, stamp := some (parkedCount v.entries + 1), parkTimer := timer } else x) = es :=
      (List.map_congr_left fun x hx => by simp [hes x hx]).trans es.map_id
    rw [Service.parks_iff, Service.park, count, split]
    rw [split] at parked perm
    rw [count, split] at others
    simp only [List.map_append, List.map_cons, others hb, others ha, key, if_true]
    refine ⟨fun x hx => ?_, perm_range'_next perm ?_⟩
    · simp only [List.mem_append, List.mem_cons] at hx
      rcases hx with hx | rfl | hx
      · exact parked x (by simp [hx])
      · simp
      · exact parked x (by simp [hx])
    · simp only [List.filterMap_append, List.filterMap_cons, noStamp]
      exact List.perm_middle
  | remove k e found =>
    obtain ⟨before, after, split, hb, ha⟩ := table.split found
    have key : e.key = k := (Service.entry?_mem found).2
    have others {es : List Entry} (hes : ∀ x ∈ es, x.key ≠ k) : es.filter (fun x => x.key ≠ k) = es :=
      List.filter_eq_self.mpr fun x hx => by simp [hes x hx]
    rw [split] at parked perm
    rw [Service.parks_iff, Service.remove, closeStamp_eq_map, split, List.filter_append, List.filter_cons, others hb,
      others ha, if_neg (by simp [key])]
    refine ⟨fun x hx => ?_, stamps_lowered perm⟩
    obtain ⟨y, hy, rfl⟩ := List.mem_map.mp hx
    simpa [Entry.lower_stamp_isSome] using parked y (by simp only [List.mem_append, List.mem_cons] at hy ⊢; tauto)
  | take k e rest head found =>
    refine h.map fun x hx => ?_
    by_cases c : x.key = k
    · obtain ⟨y, hy, key, waits⟩ := table.2.2.2.1 k (by simp [head])
      obtain rfl := table.unique hy hx (key.trans c.symm)
      have notParked : y.state ≠ .parked := fun c => by simp [Entry.waits, c] at waits
      simp only [c, if_true, notParked, iff_false, true_and]
      split <;> simp
    · simp [c]
  | setHold w hold ready held => exact h
  | windows ws ready => exact h
  | clear => exact (Service.parks_iff _).mpr ⟨by simp, List.Perm.nil⟩
  | add e fresh room state =>
    rw [Service.parks_iff]
    refine ⟨fun x hx => ?_, ?_⟩
    · rcases List.mem_append.mp hx with hx | hx
      · exact parked x hx
      · obtain rfl := List.mem_singleton.mp hx
        rcases state with ⟨c, stamp, -⟩ | ⟨c, stamp⟩ <;> simp [c, stamp]
    · dsimp only
      rcases state with ⟨c, stamp, -⟩ | ⟨c, stamp⟩
      · simpa [stamp] using perm
      · refine perm_range'_next perm ?_
        rw [parkedCount_eq parked] at stamp
        simp [stamp]

end Sys2Proof.Machine
end

section
/-! What every command but the two resets can do to the tables: the Exchange Table and the Service Unit go through their
moves, and the bounds on notes, unacknowledged frames, memory and the buffer are kept. Each operation of the model once, in
the model's order. -/

namespace Sys2Proof.Machine

/-- Entries that hold a reserved place of the Note Queue. -/
def Service.reserved (v : Service) : Nat := (v.entries.filter (·.reservation)).length

theorem notePlaces_iff (s : State) :
    NotePlaces s ↔ s.notes.stored.length + (s.notes.reserved.toNat + s.service.reserved) ≤ Config.notePlaces := Iff.rfl

/-- `t` comes after `s` with both tables moved and every bound kept. -/
structure State.Follows (j : Option SlotId) (s t : State) : Prop where
  slots : s.sched.Moves j t.sched
  table : s.service.Table → s.service.Moves t.service
  notes : NotePlaces s → NotePlaces t
  credit : Credit s → Credit t
  mem : MemoryForm s → MemoryForm t
  buffer : BufferEmpty s → BufferEmpty t

/-- The unacknowledged list, the memory and the buffer have not changed. -/
def State.bufferAlike (t u : State) : Prop :=
  (u.engine.unacked, u.mem, u.bus.received) = (t.engine.unacked, t.mem, t.bus.received)

/-- Nothing that `Follows` speaks of has changed. -/
def State.alike (t u : State) : Prop :=
  (u.sched, u.service, u.notes, u.engine.unacked, u.mem, u.bus.received) =
    (t.sched, t.service, t.notes, t.engine.unacked, t.mem, t.bus.received)

theorem Service.reserved_map {v : Service} {g : Entry → Entry} (same : ∀ e, (g e).reservation = e.reservation)
    (ws : Vector Window 8) (queue : List Key) :
    ({ windows := ws, entries := v.entries.map g, queue := queue } : Service).reserved = v.reserved := by
  simp only [Service.reserved, List.filter_map, List.length_map]
  exact congrArg _ (congrArg (List.filter · v.entries) (funext same))

theorem Service.reserved_remove_le (v : Service) (k : Key) (o : Option Nat) : (v.remove k o).reserved ≤ v.reserved := by
  simp only [Service.reserved, Service.remove, closeStamp_eq_map, List.filter_map, List.length_map]
  refine le_trans (le_of_eq ?_) ((List.filter_sublist (p := fun x => x.key ≠ k)).filter _).length_le
  exact congrArg _ (congrArg (List.filter · _) (funext fun e => (e.lower_frame o).2.2.2.1))

namespace State.Follows

variable {j : Option SlotId} {s t u : State}

/-! ### Rules of the relation -/

theorem refl (s : State) : Follows j s s := ⟨.refl, fun _ => .refl, id, id, id, id⟩

theorem trans (h : Follows j s t) (g : Follows j t u) : Follows j s u where
  slots := h.slots.trans g.slots
  table tab := (h.table tab).trans (g.table ((h.table tab).keeps_table tab))
  notes := g.notes ∘ h.notes
  credit := g.credit ∘ h.credit
  mem := g.mem ∘ h.mem
  buffer := g.buffer ∘ h.buffer

/-- The general step: moves of the tables, a bound on the notes, and nothing else. -/
theorem next (h : Follows j s t) (slots : t.sched.Moves j u.sched)
    (table : s.service.Table → t.service.Table → t.service.Moves u.service) (notes : NotePlaces s → NotePlaces u)
    (same : t.bufferAlike u) : Follows j s u := by
  obtain ⟨unacked, mem, received⟩ : _ ∧ _ ∧ _ := by simpa [bufferAlike] using same
  refine ⟨h.slots.trans slots, fun tab => ?_, notes, fun credit => ?_, fun form => ?_, fun empty => ?_⟩
  · exact (h.table tab).trans (table tab ((h.table tab).keeps_table tab))
  · unfold Credit; rw [unacked]; exact h.credit credit
  · unfold MemoryForm; rw [mem]; exact h.mem form
  · unfold BufferEmpty; rw [received]; exact h.buffer empty

theorem frame (h : Follows j s t) (same : t.alike u) : Follows j s u := by
  obtain ⟨sched, service, notes, rest⟩ : _ ∧ _ ∧ _ ∧ _ := by simpa [alike] using same
  refine h.next (sched ▸ .refl) (fun _ _ => service ▸ .refl) (fun places => ?_) (by simpa [bufferAlike] using rest)
  rw [notePlaces_iff, notes, service]
  exact h.notes places

theorem ite {c : Prop} [Decidable c] (ht : c → Follows j s t) (hu : ¬ c → Follows j s u) :
    Follows j s (if c then t else u) := by
  split
  · next h => exact ht h
  · next h => exact hu h

theorem foldl {α : Type} {f : State → α → State} (l : List α)
    (step : ∀ {t : State}, ∀ a ∈ l, Follows j s t → Follows j s (f t a)) (h : Follows j s t) :
    Follows j s (l.foldl f t) := by
  induction l generalizing t with
  | nil => exact h
  | cons a l ih => exact ih (fun b hb => step b (by simp [hb])) (step a (by simp) h)

/-- A move of the Exchange Table. -/
theorem slot (h : Follows j s t) (m : t.sched.Move j u.sched)
    (same : u.service = t.service ∧ u.notes = t.notes ∧ t.bufferAlike u) : Follows j s u := by
  obtain ⟨service, notes, rest⟩ := same
  refine h.next (.single m) (fun _ _ => service ▸ .refl) (fun places => ?_) rest
  rw [notePlaces_iff, notes, service]
  exact h.notes places

/-- Moves of the Service Unit that reserve no place. -/
theorem service (h : Follows j s t) (moves : s.service.Table → t.service.Table → t.service.Moves u.service)
    (count : u.service.reserved ≤ t.service.reserved)
    (same : u.sched = t.sched ∧ u.notes = t.notes ∧ t.bufferAlike u) : Follows j s u := by
  obtain ⟨sched, notes, rest⟩ := same
  refine h.next (sched ▸ .refl) moves (fun places => ?_) rest
  have before := h.notes places
  rw [notePlaces_iff] at before ⊢
  rw [notes]
  omega

/-- The notes change so that no more places are taken. -/
theorem noted (h : Follows j s t) (count : NotePlaces s → NotePlaces u)
    (same : u.sched = t.sched ∧ u.service = t.service ∧ t.bufferAlike u) : Follows j s u := by
  obtain ⟨sched, service, rest⟩ := same
  exact h.next (sched ▸ .refl) (fun _ _ => service ▸ .refl) count rest

/-! ### Events, results, and the end of this side of a connection -/

theorem raise (h : Follows j s t) (e : Event) : Follows j s (t.raise e) := h.frame (by simp [alike])

theorem raiseIf (h : Follows j s t) (c : Bool) (e : Event) : Follows j s (t.raiseIf c e) :=
  h.frame (by simp [alike])

theorem finish (h : Follows j s t) (command : Byte) (code : ResultCode) (detail : Nat := 0) :
    Follows j s (t.finish command code detail) := h.frame (by simp [alike])

theorem takeCommand {act : Word → State → State} (h : Follows j s t)
    (taken : ∀ {t : State} (a : Word), Follows j s t → Follows j s (act a t)) : Follows j s (t.takeCommand act) := by
  obtain ⟨_, lost⟩ | ⟨_, accepted⟩ := t.takeCommand_cases act
  · rw [lost]; exact h.frame (by rfl)
  · rw [accepted]; exact taken _ (h.frame (by rfl))

/-- The Engine's list is emptied, and a NOTE's reservation freed. -/
theorem engineIdle (h : Follows j s t) : Follows j s t.engineIdle := by
  refine h.trans ⟨.refl, fun _ => .refl, fun places => ?_, fun _ => Nat.zero_le _, id, id⟩
  rw [notePlaces_iff] at places ⊢
  exact le_trans (Nat.add_le_add_left (Nat.add_le_add_right (Nat.zero_le _) _) _) places

theorem releaseLine (h : Follows j s t) : Follows j s t.releaseLine := h.frame (by rfl)

theorem leaveConnection (h : Follows j s t) : Follows j s t.leaveConnection :=
  (ite (fun _ => h.releaseLine) fun _ => h).engineIdle

theorem markGone (h : Follows j s t) (w : Want) : Follows j s (t.markGone w) := h.frame (by simp [alike])

theorem callGone (h : Follows j s t) : Follows j s t.callGone :=
  ite (fun _ => (h.frame (by rfl))) fun _ => h.leaveConnection

theorem slotWantGone (h : Follows j s t) (i : SlotId) : Follows j s (t.slotWantGone i) :=
  ite (fun _ => (h.markGone _).callGone) fun _ => h.markGone _

theorem entryWantGone (h : Follows j s t) (k : Key) : Follows j s (t.entryWantGone k) :=
  ite (fun _ => ((h.markGone _).markGone _).callGone) fun _ => (h.markGone _).markGone _

/-! ### Exchange Scheduler -/

/-- A slot changes and keeps its state; its progress does not fall while its repetition lasts. -/
theorem setSlot (h : Follows j s t) {i : SlotId} {x : Slot} (state : x.state = (t.slot i).state)
    (rep : (t.slot i).goesOnAs x) : Follows j s (t.setSlot i x) :=
  h.slot (.edit i x state rep) (by simp [bufferAlike])

/-- A slot changes and keeps its state and its progress. -/
theorem setSlot_same (h : Follows j s t) {i : SlotId} {x : Slot} (state : x.state = (t.slot i).state)
    (progress : x.progress = (t.slot i).progress) : Follows j s (t.setSlot i x) :=
  h.setSlot state fun rep => ⟨by rw [Slot.inRepetition, state]; exact rep, progress.ge⟩

theorem finishSlot (h : Follows j s t) (i : SlotId) (o : ExchangeOutcome) : Follows j s (t.finishSlot i o) := by
  obtain same | ⟨old, ended⟩ := t.finishSlot_cases i o
  · rw [same]; exact h
  · rw [ended]; exact h.slot (.finish i o ((t.slot i).more o) old) ⟨rfl, rfl, rfl⟩

theorem queueSlot (h : Follows j s t) (i : SlotId) : Follows j s (t.queueSlot i) := by
  obtain same | ⟨old, queued⟩ := t.queueSlot_cases i
  · rw [same]; exact h
  · rw [queued]; exact h.slot (.queue i old) ⟨rfl, rfl, rfl⟩

theorem disconnectSlot (h : Follows j s t) (i : SlotId) : Follows j s (t.disconnectSlot i) := by
  obtain same | ⟨old, set⟩ := t.disconnectSlot_cases i
  · rw [same]; exact h
  · rw [set]
    refine h.slot (.pass i _ ?_ (by simp) fun _ => ⟨by simp [Slot.inRepetition], le_refl _⟩) (by simp [bufferAlike])
    exact old.elim (fun e => ⟨e.trans_ne (by simp), e.trans_ne (by simp)⟩) fun e => ⟨e.trans_ne (by simp), e.trans_ne (by simp)⟩

theorem activateSlot (h : Follows j s t) (i : SlotId) : Follows j s (t.activateSlot i) := by
  obtain same | ⟨old, set⟩ := t.activateSlot_cases i
  · rw [same]; exact h
  · rw [set]
    refine h.slot (.pass i _ ?_ (by simp) fun _ => ⟨by simp [Slot.inRepetition], le_refl _⟩) (by simp [bufferAlike])
    exact old.elim (fun e => ⟨e.trans_ne (by simp), e.trans_ne (by simp)⟩) fun e => ⟨e.trans_ne (by simp), e.trans_ne (by simp)⟩

theorem finishWhere (h : Follows j s t) (p : Slot → Bool) (o : ExchangeOutcome) : Follows j s (t.finishWhere p o) :=
  foldl _ (fun i _ h => ite (fun _ => h.finishSlot i o) fun _ => h) h

theorem requeueOrLeave (h : Follows j s t) (i : SlotId) : Follows j s (t.requeueOrLeave i) :=
  ite (fun _ => h.finishSlot i _) fun _ => h.queueSlot i

theorem callRefused (h : Follows j s t) (i : SlotId) (r : RefuseReason) : Follows j s (t.callRefused i r) := by
  have counted : Follows j s (t.setSlot i { t.slot i with busyRefusals := (t.slot i).busyRefusals + 1 }) :=
    h.setSlot_same (by rfl) (by rfl)
  exact ite (fun _ => h) fun _ => ite (fun _ => h.finishSlot i _) fun _ =>
    ite (fun _ => ite (fun _ => counted.finishSlot i _) fun _ => counted.requeueOrLeave i) fun _ => h.finishSlot i _

theorem callUnanswered (h : Follows j s t) (i : SlotId) : Follows j s (t.callUnanswered i) := by
  have counted : Follows j s (t.setSlot i { t.slot i with noAnswers := (t.slot i).noAnswers + 1 }) :=
    h.setSlot_same (by rfl) (by rfl)
  exact ite (fun _ => h) fun _ => ite (fun _ => h.finishSlot i _) fun _ =>
    ite (fun _ => counted.finishSlot i _) fun _ => counted.requeueOrLeave i

theorem callCollided (h : Follows j s t) (i : SlotId) : Follows j s (t.callCollided i) :=
  ite (fun _ => h) fun _ => ite (fun _ => (h.setSlot_same (by rfl) (by rfl)).queueSlot i) fun _ => h.setSlot_same (by rfl) (by rfl)

theorem callHeld (h : Follows j s t) (i : SlotId) : Follows j s (t.callHeld i) :=
  ite (fun _ => h) fun _ => ite (fun _ => h.finishSlot i _) fun _ => h.disconnectSlot i

theorem cancelSlot (h : Follows j s t) (i : SlotId) : Follows j s (t.cancelSlot i) := by
  unfold State.cancelSlot
  dsimp only
  cases (t.slot i).state with
  | queued | disconnected | armed => exact h.finishSlot i _
  | selected => exact ite (fun _ => h.setSlot_same (by rfl) (by rfl)) fun _ => (h.slotWantGone i).finishSlot i _
  | active => exact h.setSlot_same (by rfl) (by rfl)
  | free | loading | finished => exact h

theorem stopSlot (h : Follows j s t) (i : SlotId) (st : Standing) : Follows j s (t.stopSlot i st) := by
  have ended := h.finishSlot i .cancelled
  have stopped : Follows j s (t.setSlot i { t.slot i with standing := some { st with stopRequested := true } }) :=
    h.setSlot_same (by rfl) (by rfl)
  unfold State.stopSlot
  dsimp only
  generalize t.setSlot i { t.slot i with standing := some { st with stopRequested := true } } = u at stopped ⊢
  cases (t.slot i).state with
  | armed => exact ended
  | queued | selected | active | disconnected => exact stopped
  | free | loading | finished => exact h

/-- A repetition starts in a slot that has none. -/
theorem startRepetition (h : Follows j s t) {i : SlotId} {x : Slot} (state : x.state = (t.slot i).state)
    (old : (t.slot i).state = .armed ∨ (t.slot i).state = .loading) : Follows j s (t.setSlot i x) :=
  h.setSlot state fun rep => by rcases old with c | c <;> simp [Slot.inRepetition, c] at rep

/-- A slot leaves LOADING for a state that neither list names. -/
theorem leaveLoading (h : Follows j s t) {i : SlotId} {x : Slot} (loading : (t.slot i).state = .loading)
    (new : x.state ≠ .queued ∧ x.state ≠ .finished ∧ x.state ≠ .selected) : Follows j s (t.setSlot i x) := by
  refine h.slot (.pass i x ⟨loading.trans_ne (by simp), loading.trans_ne (by simp)⟩ new fun rep => ?_)
    ⟨rfl, rfl, rfl⟩
  have none : (t.slot i).inRepetition := rep
  simp [Slot.inRepetition, loading] at none

/-- A FREE slot enters LOADING (R1). -/
theorem startLoading (h : Follows j s t) {i : SlotId} {x : Slot} (free : (t.slot i).state = .free)
    (new : x.state ≠ .queued ∧ x.state ≠ .finished ∧ x.state ≠ .selected) : Follows j s (t.setSlot i x) := by
  refine h.slot (.pass i x ⟨free.trans_ne (by simp), free.trans_ne (by simp)⟩ new fun rep => ?_)
    ⟨rfl, rfl, rfl⟩
  have none : (t.slot i).inRepetition := rep
  simp [Slot.inRepetition, free] at none

theorem edgeSlot (h : Follows j s t) (l : TriggerLine) (i : SlotId) : Follows j s (State.edgeSlot l t i) := by
  unfold State.edgeSlot
  dsimp only
  split
  · exact h
  · refine ite (fun _ => h) fun _ => ite (fun armed => ?_) fun _ => ite (fun _ => h.setSlot_same (by rfl) (by rfl)) fun _ => h
    have started (st : Standing) : Follows j s (t.setSlot i { (t.slot i).startRepetition with standing := some st }) :=
      h.startRepetition rfl (.inl armed)
    exact ite (fun _ => (started _).finishSlot i _) fun _ => (started _).queueSlot i

theorem peerSilentSlots (h : Follows j s t) (p : StationId) : Follows j s (t.peerSilentSlots p) := by
  unfold State.peerSilentSlots
  dsimp only
  split
  · exact ite (fun _ => ((h.finishWhere _ _).slotWantGone _).finishSlot _ _) fun _ => h.finishWhere _ _
  · exact h.finishWhere _ _

theorem leaveSlots (h : Follows j s t) : Follows j s t.leaveSlots := by
  have queued := foldl t.sched.ready (fun i _ h => h.finishSlot i .left) h
  unfold State.leaveSlots
  dsimp only
  split
  · exact ite (fun _ => queued.finishWhere _ _) fun _ => ((queued.finishWhere _ _).slotWantGone _).finishSlot _ _
  · exact queued.finishWhere _ _

/-- The record of slot `i` is written, where `j` allows that. -/
theorem recordWritten (h : Follows j s t) {i : SlotId} (more : Bool)
    (written : (t.slot i).state = .finished → j = some i) : Follows j s (t.recordWritten i more) := by
  refine ite (fun _ => h) fun finished => ?_
  have finished : (t.slot i).state = .finished := not_not.mp finished
  have leaves {x : Slot} (new : x.state ≠ .queued ∧ x.state ≠ .finished ∧ x.state ≠ .selected) :
      Follows j s (({ t with sched := { t.sched with finished := t.sched.finished.erase i } } : State).setSlot i x) :=
    h.slot (.write i x (written finished) finished new) ⟨rfl, rfl, rfl⟩
  exact ite (fun _ => ite (fun _ => leaves (by simp)) fun _ => (leaves (by simp)).finishSlot i _) fun _ =>
    leaves (by simp [Slot.blank])

end State.Follows

end Sys2Proof.Machine
end

section
/-! The Service Unit and the Note Queue: their operations as moves of the tables (files 02 and 07). -/

namespace Sys2Proof.Machine

/-! ### What the Service Unit's operations do to its block -/

theorem State.queueEntry_eq {s : State} {k : Key} {e : Entry} (found : s.entry? k = some e) (f : Entry → Entry) :
    s.queueEntry k f = { s with service := s.service.requeue k e.stamp f } := by
  simp only [State.queueEntry, found]
  rfl

theorem State.parkEntry_eq {s : State} {k : Key} {e : Entry} (found : s.entry? k = some e)
    (online : s.station.state ≠ .leaving) (old : e.state ≠ .parked) :
    s.parkEntry k = { s with service := s.service.park k (some s.parkSpan) } := by
  simp only [State.parkEntry, online, found, old, if_false]
  rfl

/-- The entry of a key leaves the table; its want is gone, and its window is checked (R35). -/
theorem State.removeEntry_found {s : State} {k : Key} {e : Entry} (found : s.entry? k = some e) :
    s.removeEntry k =
      (if e.state = .resuming ∨ e.state = .withdrawing then
        ({ s with service := s.service.remove k e.stamp } : State).entryWantGone k
      else { s with service := s.service.remove k e.stamp }).windowCheck e.window := by
  simp only [State.removeEntry, found]
  rfl

theorem Service.reserved_setHold (v : Service) (w : WindowId) (h : HoldState) : (v.setHold w h).reserved = v.reserved := rfl

theorem Service.reserved_edit (v : Service) (k : Key) {f : Entry → Entry} (same : ∀ e : Entry, (f e).reservation = e.reservation) :
    (v.edit k f).reserved = v.reserved :=
  Service.reserved_map (fun e => by split <;> simp [same]) _ _

theorem Service.reserved_requeue (v : Service) (k : Key) (o : Option Nat) {f : Entry → Entry}
    (same : ∀ e : Entry, (f e).reservation = e.reservation) : (v.requeue k o f).reserved = v.reserved := by
  rw [Service.requeue, closeStamp_eq_map, List.map_map]
  refine Service.reserved_map (fun e => ?_) _ _
  dsimp only [Function.comp]
  split <;> simp [same]

theorem Service.reserved_park (v : Service) (k : Key) (timer : Timer) : (v.park k timer).reserved = v.reserved :=
  Service.reserved_map (fun e => by split <;> rfl) _ _

theorem Service.reserved_remove_lt {v : Service} {k : Key} {e : Entry} (o : Option Nat) (found : v.entry? k = some e)
    (reservation : e.reservation = true) : (v.remove k o).reserved < v.reserved := by
  obtain ⟨mem, key⟩ := Service.entry?_mem found
  simp only [Service.reserved, Service.remove, closeStamp_eq_map, List.filter_map, List.length_map]
  have same : ((·.reservation) ∘ Entry.lower o) = (·.reservation) := funext fun e => (e.lower_frame o).2.2.2.1
  rw [same, List.filter_comm, List.length_filter_lt_length_iff_exists]
  exact ⟨e, List.mem_filter.mpr ⟨mem, reservation⟩, by simp [key]⟩

theorem Service.entry?_map {v : Service} {k : Key} {g : Entry → Entry} (same : ∀ e : Entry, (g e).key = e.key)
    {ws : Vector Window 8} {queue : List Key} :
    ({ windows := ws, entries := v.entries.map g, queue := queue } : Service).entry? k = (v.entry? k).map g := by
  simp only [Service.entry?, List.find?_map, Function.comp_def, same]

theorem Service.entry?_edit {v : Service} {k : Key} {f : Entry → Entry} (same : ∀ e : Entry, (f e).key = e.key) :
    (v.edit k f).entry? k = (v.entry? k).map f := by
  refine (Service.entry?_map fun e => by split <;> simp [same]).trans ?_
  cases found : v.entry? k with
  | none => rfl
  | some e => simp [(Service.entry?_mem found).2]

/-! ### Places of the Note Queue when a want is gone (R122) -/

/-- Places of the Note Queue that are taken (R121). -/
def State.places (s : State) : Nat := s.notes.stored.length + s.reservedPlaces

theorem State.places_engineIdle (s : State) : s.engineIdle.places ≤ s.places :=
  Nat.add_le_add_left (Nat.add_le_add_right (Nat.zero_le _) _) _

theorem State.places_of_alike {t u : State} (same : u.notes = t.notes ∧ u.service = t.service) : u.places = t.places := by
  obtain ⟨notes, service⟩ := same
  unfold State.places State.reservedPlaces
  rw [notes, service]

theorem State.places_callGone (s : State) : s.callGone.places ≤ s.places := by
  unfold State.callGone
  split
  · exact le_rfl
  · refine (State.places_engineIdle _).trans ?_
    split
    · exact le_rfl
    · exact le_rfl

theorem State.places_entryWantGone (s : State) (k : Key) : (s.entryWantGone k).places ≤ s.places := by
  have marked : ((s.markGone (.resume k)).markGone (.withdraw k)).places = s.places := State.places_of_alike (by simp)
  unfold State.entryWantGone
  dsimp only
  split
  · exact (State.places_callGone _).trans marked.le
  · exact marked.le

theorem State.places_windowCheck (s : State) (w : WindowId) : (s.windowCheck w).places = s.places := by
  obtain same | ⟨-, -, held⟩ := s.windowCheck_cases w
  · rw [same]
  · rw [held]; rfl

/-- An entry that leaves the table gives its reserved place back (R35). -/
theorem State.places_removeEntry {s : State} {k : Key} {e : Entry} (found : s.entry? k = some e)
    (reservation : e.reservation = true) : (s.removeEntry k).places < s.places := by
  have lost : ({ s with service := s.service.remove k e.stamp } : State).places < s.places :=
    Nat.add_lt_add_left (Nat.add_lt_add_left (Service.reserved_remove_lt _ found reservation) _) _
  rw [State.removeEntry_found found, State.places_windowCheck]
  split
  · exact (State.places_entryWantGone _ _).trans_lt lost
  · exact lost

/-! ### HOLD: no READY entry stays on the window (R41) -/

/-- An entry that is READY after another was parked was READY before. -/
theorem State.ready_of_parkEntry {s : State} (table : s.service.Table) {k : Key} {x : Entry}
    (mem : x ∈ (s.parkEntry k).service.entries) (ready : x.state = .ready) :
    x.key ≠ k ∧ ∃ y ∈ s.service.entries, y.key = x.key ∧ y.window = x.window ∧ y.state = .ready := by
  have mapped {f g : Entry → Entry} (fstate : ∀ e : Entry, (f e).state ≠ .ready)
      (same : ∀ e : Entry, (g e).key = e.key ∧ (g e).window = e.window ∧ (g e).state = e.state)
      (mem : x ∈ s.service.entries.map fun e => if e.key = k then f e else g e) :
      x.key ≠ k ∧ ∃ y ∈ s.service.entries, y.key = x.key ∧ y.window = x.window ∧ y.state = .ready := by
    obtain ⟨y, hy, rfl⟩ := List.mem_map.mp mem
    split at ready
    · exact absurd ready (fstate y)
    · next ne =>
      obtain ⟨key, window, state⟩ := same y
      rw [if_neg ne]
      exact ⟨key ▸ ne, y, hy, key.symm, window.symm, state ▸ ready⟩
  cases found : s.entry? k with
  | none =>
    have same : s.parkEntry k = s := by simp [State.parkEntry, State.withdrawEntry, State.queueEntry, found]
    rw [same] at mem
    exact ⟨Service.entry?_eq_none found x mem, x, mem, rfl, rfl, ready⟩
  | some e =>
    by_cases leaving : s.station.state = .leaving
    · have queued : s.parkEntry k = { s with service := s.service.requeue k e.stamp fun e =>
          { e with state := .withdrawDue, withdrawReason := some .leaving } } := by
        rw [State.parkEntry, if_pos leaving, State.withdrawEntry, State.queueEntry_eq found]
      rw [queued] at mem
      have split (y : Entry) : (if (y.lower e.stamp).key = k then
          { y.lower e.stamp with state := EntryState.withdrawDue, withdrawReason := some .leaving, stamp := none,
                                 parkTimer := none } else y.lower e.stamp) =
          if y.key = k then { y.lower e.stamp with state := EntryState.withdrawDue, withdrawReason := some .leaving,
                                                   stamp := none, parkTimer := none } else y.lower e.stamp := by
        simp
      refine mapped (f := fun y => { y.lower e.stamp with
        state := .withdrawDue, withdrawReason := some .leaving, stamp := none, parkTimer := none })
        (g := Entry.lower e.stamp) (by simp) (by simp) ?_
      simpa only [Service.requeue, closeStamp_eq_map, List.map_map, Function.comp_def, split] using mem
    · by_cases old : e.state = .parked
      · have same : s.parkEntry k = s := by simp [State.parkEntry, leaving, found, old]
        rw [same] at mem
        refine ⟨fun key => ?_, x, mem, rfl, rfl, ready⟩
        obtain ⟨he, hkey⟩ := Service.entry?_mem found
        rw [table.unique mem he (key.trans hkey.symm), old] at ready
        cases ready
      · rw [State.parkEntry_eq found leaving old] at mem
        exact mapped (f := fun y => { y with
          state := .parked, stamp := some (parkedCount s.service.entries + 1), parkTimer := some s.parkSpan })
          (g := id) (by simp) (by simp) mem

/-! ### Entries after others joined the resume queue -/

theorem State.windows_queueEntry (s : State) (k : Key) (f : Entry → Entry) :
    (s.queueEntry k f).service.windows = s.service.windows := by
  unfold State.queueEntry
  split <;> rfl

theorem State.mem_queueEntry {s : State} {k : Key} {f : Entry → Entry} {x : Entry}
    (same : ∀ e : Entry, (f e).key = e.key ∧ (f e).window = e.window) (mem : x ∈ (s.queueEntry k f).service.entries) :
    ∃ y ∈ s.service.entries, y.key = x.key ∧ y.window = x.window := by
  cases found : s.entry? k with
  | none => exact ⟨x, State.queueEntry_of_none s k f found ▸ mem, rfl, rfl⟩
  | some e =>
    rw [State.queueEntry_eq found, Service.requeue, closeStamp_eq_map, List.map_map] at mem
    obtain ⟨y, hy, rfl⟩ := List.mem_map.mp mem
    refine ⟨y, hy, ?_⟩
    dsimp only [Function.comp]
    split <;> simp [same]

theorem State.mem_parkedKeys {s : State} {p : Entry → Bool} {k : Key} (mem : k ∈ s.parkedKeys p) :
    ∃ e ∈ s.service.entries, e.key = k ∧ p e = true := by
  obtain ⟨n, -, found⟩ := List.mem_filterMap.mp mem
  obtain ⟨e, found, key⟩ := Option.map_eq_some_iff.mp found
  have picked := List.find?_some found
  simp only [Bool.and_eq_true] at picked
  exact ⟨e, List.mem_of_find?_eq_some found, key, picked.2⟩

namespace State.Follows

variable {j : Option SlotId} {s t u : State}

/-- One move of the Service Unit, which may rest on the table having been in order. -/
theorem move (h : Follows j s t) (m : s.service.Table → t.service.Table → t.service.Move u.service)
    (count : u.service.reserved ≤ t.service.reserved)
    (same : u.sched = t.sched ∧ u.notes = t.notes ∧ t.bufferAlike u) : Follows j s u :=
  h.service (fun before now => .single (m before now)) count same

theorem updateEntry (h : Follows j s t) (k : Key) {f : Entry → Entry} (same : ∀ e : Entry, e.sameRole (f e)) :
    Follows j s (t.updateEntry k f) :=
  h.move (fun _ _ => .edit k f same) (Service.reserved_edit _ _ fun e => (same e).2.2.2.2).le (by simp [bufferAlike])

theorem windowCheck (h : Follows j s t) (w : WindowId) : Follows j s (t.windowCheck w) := by
  obtain same | ⟨holding, kept, held⟩ := t.windowCheck_cases w
  · rw [same]; exact h
  · rw [held]
    refine (h.move (u := t.setHold w .held) (fun _ _ => .setHold w .held (fun ready => ?_) fun _ => ?_) le_rfl
      (by simp [bufferAlike])).raise _
    · have : HoldState.holding = .ready := holding.symm.trans ready
      cases this
    · simpa using List.any_eq_false.mp kept

/-- An entry joins the resume queue: any that becomes READY does so on a READY window. -/
theorem queueEntry (h : Follows j s t) (k : Key) {f : Entry → Entry}
    (same : ∀ x : Entry, (f x).key = x.key ∧ (f x).window = x.window ∧ (f x).waits = true ∧
      (f x).reservation = x.reservation)
    (ready : s.service.Table → ∀ e x : Entry, t.entry? k = some e → x.window = e.window → (f x).state = .ready →
      (t.window e.window).hold = .ready) : Follows j s (t.queueEntry k f) := by
  cases found : t.entry? k with
  | none => rw [State.queueEntry_of_none t k f found]; exact h
  | some e =>
    rw [State.queueEntry_eq found]
    refine h.move (fun before _ => .requeue k e f found (fun x => ?_) fun x => ready before e x found)
      (Service.reserved_requeue _ _ _ fun x => (same x).2.2.2).le (by simp [bufferAlike])
    obtain ⟨key, window, waits, -⟩ := same x
    exact ⟨key, window, waits⟩

theorem readyEntry (h : Follows j s t) (k : Key)
    (ready : s.service.Table → ∀ e, t.entry? k = some e → (t.window e.window).hold = .ready) :
    Follows j s (t.readyEntry k) :=
  h.queueEntry k (by simp [Entry.waits]) fun table e _ found _ _ => ready table e found

theorem withdrawEntry (h : Follows j s t) (k : Key) (r : WithdrawReason) : Follows j s (t.withdrawEntry k r) :=
  h.queueEntry k (by simp [Entry.waits]) (by simp)

theorem parkEntry (h : Follows j s t) (k : Key) : Follows j s (t.parkEntry k) := by
  refine ite (fun _ => h.withdrawEntry k _) fun online => ?_
  cases found : t.entry? k with
  | none => exact h
  | some e =>
    refine ite (fun _ => h) fun old => ?_
    exact h.move (fun _ _ => .park k e (some t.parkSpan) found old) (Service.reserved_park t.service k _).le
      (by simp [bufferAlike])

theorem parkAndCheck (h : Follows j s t) (k : Key) : Follows j s (t.parkAndCheck k) := by
  unfold State.parkAndCheck
  split
  · exact h
  · exact (h.parkEntry k).windowCheck _

theorem removeEntry (h : Follows j s t) (k : Key) : Follows j s (t.removeEntry k) := by
  cases found : t.entry? k with
  | none => simpa [State.removeEntry, found] using h
  | some e =>
    rw [State.removeEntry_found found]
    have removed : Follows j s { t with service := t.service.remove k e.stamp } :=
      h.move (fun _ _ => .remove k e found) (Service.reserved_remove_le _ _ _) (by simp [bufferAlike])
    exact (ite (fun _ => removed.entryWantGone k) fun _ => removed).windowCheck _

theorem retireEntry (h : Follows j s t) (k : Key) : Follows j s (t.retireEntry k) := h.removeEntry k

theorem dropEntry (h : Follows j s t) (k : Key) : Follows j s (t.dropEntry k) :=
  ite (fun _ => (h.removeEntry k).raise _) fun _ => h

/-- A note is stored where a place is free. -/
theorem storeNote (h : Follows j s t) (n : Note) (place : NotePlaces s → t.places < Config.notePlaces) :
    Follows j s (t.storeNote n) := by
  have stored : Follows j s { t with notes := { t.notes with stored := t.notes.stored ++ [n] } } := by
    refine h.noted (fun before => ?_) ⟨rfl, rfl, rfl⟩
    have free := place before
    unfold State.places State.reservedPlaces at free
    unfold NotePlaces State.reservedPlaces
    simp only [List.length_append, List.length_singleton]
    omega
  exact stored.raise _

/-- A NOTE's reserved place takes its MESSAGE (R122). -/
theorem storeMessage (h : Follows j s t) (sender : StationId) (payload : List Byte)
    (reserved : t.notes.reserved = true) : Follows j s (t.storeMessage sender payload) := by
  have freed : Follows j s { t with notes := { t.notes with reserved := false } } :=
    h.noted (fun before => le_trans (State.places_engineIdle t) (h.notes before)) ⟨rfl, rfl, rfl⟩
  refine freed.storeNote _ fun before => lt_of_lt_of_le ?_ (h.notes before)
  change t.notes.stored.length + (0 + t.service.reserved) <
    t.notes.stored.length + (t.notes.reserved.toNat + t.service.reserved)
  rw [reserved]
  exact Nat.add_lt_add_left (Nat.add_lt_add_right Nat.one_pos _) _

theorem finishEntry (h : Follows j s t) (k : Key) : Follows j s (t.finishEntry k) := by
  unfold State.finishEntry
  split
  · exact h
  · next e found =>
    refine ite (fun reservation => (h.retireEntry k).storeNote _ fun before => ?_) fun _ => h.retireEntry k
    exact (State.places_removeEntry found reservation).trans_le (h.notes before)

theorem settleDisconnect (h : Follows j s t) (k : Key) : Follows j s (t.settleDisconnect k) := by
  unfold State.settleDisconnect
  split
  · exact h
  · next e found =>
    refine ite (fun _ => h) fun _ => ite (fun ready => h.readyEntry k fun _ x foundX => ?_) fun _ => h.parkAndCheck k
    cases found.symm.trans foundX
    exact ready

theorem settleFinish (h : Follows j s t) (k : Key) : Follows j s (t.settleFinish k) := by
  unfold State.settleFinish
  split
  · exact h
  · exact ite (fun _ => h.finishEntry k) fun _ => h

theorem entryUnanswered (h : Follows j s t) (k : Key) : Follows j s (t.entryUnanswered k) := by
  unfold State.entryUnanswered
  split
  · exact h
  · next e found =>
    have counted : Follows j s (t.updateEntry k fun x => { x with noAnswers := x.noAnswers + 1 }) :=
      h.updateEntry k fun _ => ⟨rfl, rfl, rfl, rfl, rfl⟩
    refine ite (fun _ => h) fun _ => ite (fun _ => counted.dropEntry k) fun _ =>
      ite (fun _ => counted.queueEntry k (by simp [Entry.waits]) (by simp)) fun _ =>
      ite (fun ready => counted.readyEntry k fun _ x foundX => ?_) fun _ => counted.parkAndCheck k
    have edited := Service.entry?_edit (v := t.service) (k := k) (f := fun x => { x with noAnswers := x.noAnswers + 1 })
      fun _ => rfl
    obtain ⟨y, foundY, rfl⟩ := Option.map_eq_some_iff.mp (edited.symm.trans foundX)
    cases found.symm.trans foundY
    exact ready

/-! ### HOLD, RELEASE, LEAVE, silence, resets -/

theorem ready_of_parkEntries (keys : List Key) {t : State} (table : t.service.Table) {x : Entry}
    (mem : x ∈ (keys.foldl State.parkEntry t).service.entries) (ready : x.state = .ready) :
    x.key ∉ keys ∧ ∃ y ∈ t.service.entries, y.key = x.key ∧ y.window = x.window ∧ y.state = .ready := by
  induction keys generalizing t with
  | nil => exact ⟨by simp, x, mem, rfl, rfl, ready⟩
  | cons k keys ih =>
    have kept := (((refl (j := none) t).parkEntry k).table table).keeps_table table
    obtain ⟨others, y, hy, key, window, state⟩ := ih kept mem
    obtain ⟨ne, z, hz, key', window', state'⟩ := State.ready_of_parkEntry table hy state
    exact ⟨by simp [others, key ▸ ne], z, hz, key'.trans key, window'.trans window, state'⟩

theorem holdReady (h : Follows j s t) (w : WindowId) : Follows j s (t.holdReady w) := by
  refine h.trans ?_
  unfold State.holdReady
  dsimp only
  set keys := t.service.queue.filter fun k =>
    (t.entry? k).elim false fun e => e.window = w && e.state = .ready with def_keys
  have parked : Follows j t (keys.foldl State.parkEntry t) := foldl keys (fun k _ h => h.parkEntry k) (refl t)
  have noneReady (table : t.service.Table) :
      ∀ e ∈ (keys.foldl State.parkEntry t).service.entries, e.window = w → e.state ≠ .ready := fun e he on ready => by
    obtain ⟨out, y, hy, key, window, state⟩ := ready_of_parkEntries keys table he ready
    have queued : y.key ∈ t.service.queue := table.2.2.2.2 y hy (by simp [Entry.waits, state])
    have found : t.entry? y.key = some y := table.entry?_of_mem hy
    exact out (def_keys ▸ List.mem_filter.mpr ⟨key ▸ queued, by simp [← key, found, state, window, on]⟩)
  refine ite (fun _ => ?_) fun kept => ?_
  · exact parked.move (fun table _ => .setHold w .holding (fun _ _ => noneReady table) (by simp)) le_rfl
      (by simp [bufferAlike])
  · refine (parked.move (u := (keys.foldl State.parkEntry t).setHold w .held)
      (fun table _ => .setHold w .held (fun _ _ => noneReady table) fun _ => ?_) le_rfl (by simp [bufferAlike])).raise _
    simpa using kept

/-- Entries on a READY window join the resume queue one after the other (R44). -/
theorem readyEntries (keys : List Key) (w : WindowId) (h : Follows j s t) (ready : (t.window w).hold = .ready)
    (on : s.service.Table → ∀ e ∈ t.service.entries, e.key ∈ keys → e.window = w) :
    Follows j s (keys.foldl State.readyEntry t) := by
  induction keys generalizing t with
  | nil => exact h
  | cons k keys ih =>
    refine ih (h.readyEntry k fun table e found => ?_) ?_ fun table e he later => ?_
    · obtain ⟨he, key⟩ := Service.entry?_mem found
      rw [on table e he (by simp [key])]
      exact ready
    · exact (congrArg (fun ws : Vector Window 8 => ws[w].hold) (State.windows_queueEntry t k _)).trans ready
    · obtain ⟨y, hy, key, window⟩ := State.mem_queueEntry (f := fun e => { e with state := .ready }) (fun _ => ⟨rfl, rfl⟩) he
      exact window ▸ on table y hy (by simp [key, later])

theorem releaseHeld (h : Follows j s t) (w : WindowId) : Follows j s (t.releaseHeld w) := by
  refine h.trans ?_
  have opened : Follows j t (t.setHold w .ready) :=
    (refl t).move (fun _ _ => .setHold w .ready (by simp) (by simp)) le_rfl (by simp [bufferAlike])
  have ready : ((t.setHold w .ready).window w).hold = .ready := by
    change ((t.service.setHold w .ready).window w).hold = _
    rw [Service.window_setHold, if_pos rfl]
  refine opened.readyEntries _ w ready fun table e he key => ?_
  obtain ⟨x, hx, same, on⟩ := State.mem_parkedKeys key
  exact table.unique hx he same ▸ of_decide_eq_true on

theorem leaveEntries (h : Follows j s t) : Follows j s t.leaveEntries :=
  foldl _ (fun k _ h => h.withdrawEntry k _) h

theorem peerSilentEntries (h : Follows j s t) (p : StationId) : Follows j s (t.peerSilentEntries p) :=
  foldl _ (fun k _ h => h.dropEntry k) h

/-- The tables are emptied. -/
theorem emptyTable (h : Follows j s t) : Follows j s t.emptyTable := by
  have emptied : Follows j s { t with service := { t.service with entries := [], queue := [] } } :=
    h.move (fun _ _ => .clear) (Nat.zero_le _) ⟨rfl, rfl, rfl⟩
  exact emptied.raiseIf _ _

/-- With no entry left every HOLDING window may be HELD (R47). -/
theorem holdAll (h : Follows j s t) (empty : t.service.entries = []) : Follows j s t.holdAll := by
  unfold State.holdAll
  generalize windowIds = ws
  induction ws generalizing t with
  | nil => exact h
  | cons w ws ih =>
    rw [List.foldl_cons]
    split
    · have held : Follows j s (t.setHold w .held) :=
        h.move (fun _ _ => .setHold w .held (by simp [empty]) (by simp [empty])) le_rfl (by simp [bufferAlike])
      exact ih (held.raise _) empty
    · exact ih h empty

theorem resetWindows (h : Follows j s t) : Follows j s t.resetWindows :=
  h.move (u := t.resetWindows) (fun _ _ => .windows _ (by simp [Window.disabled])) le_rfl (by simp [bufferAlike])

end State.Follows
end Sys2Proof.Machine
end

section
/-! What the Engine's operations leave of the unacknowledged list and of the received-frame buffer (R57, R84). -/

namespace Sys2Proof.Machine

@[simp] theorem State.unacked_abortFor (s : State) (c : AbortCause) : (s.abortFor c).engine.unacked = s.engine.unacked := rfl

@[simp] theorem State.unacked_moverGiveUp (s : State) : s.moverGiveUp.engine.unacked = s.engine.unacked := rfl

@[simp] theorem State.unacked_moverFault (s : State) (d : FaultDetail) :
    (s.moverFault d).engine.unacked = s.engine.unacked := rfl

@[simp] theorem State.unacked_walkerAsk (s : State) : s.walkerAsk.engine.unacked = s.engine.unacked := by
  unfold State.walkerAsk; dsimp only; (repeat' split) <;> simp

@[simp] theorem State.unacked_askPiece (s : State) (p remaining : Nat) (make : Nat → Nat → Transaction) :
    (s.askPiece p remaining make).engine.unacked = s.engine.unacked := by
  unfold State.askPiece; dsimp only; (repeat' split) <;> simp

@[simp] theorem State.unacked_moverAsk (s : State) : s.moverAsk.engine.unacked = s.engine.unacked := by
  unfold State.moverAsk; dsimp only; (repeat' split) <;> simp

@[simp] theorem State.unacked_feed (s : State) : s.feed.engine.unacked = s.engine.unacked := by
  unfold State.feed; (repeat' split) <;> simp

@[simp] theorem State.unacked_moverRead (s : State) (data : List Byte) :
    (s.moverRead data).engine.unacked = s.engine.unacked := by
  unfold State.moverRead; dsimp only; (repeat' split) <;> simp

@[simp] theorem State.unacked_walkerRead (s : State) (data : List Byte) :
    (s.walkerRead data).engine.unacked = s.engine.unacked := by
  unfold State.walkerRead; dsimp only; (repeat' split) <;> simp

@[simp] theorem State.unacked_checkRetries (s : State) : s.checkRetries.engine.unacked = s.engine.unacked := by
  unfold State.checkRetries; (repeat' split) <;> simp

@[simp] theorem State.unacked_close (s : State) (c : ClosingFrame) : (s.close c).engine.unacked = s.engine.unacked := by
  simp [State.close]

@[simp] theorem State.unacked_closeAt (s : State) (complete : Bool) (r : DisconnectReason) :
    (s.closeAt complete r).engine.unacked = s.engine.unacked := by simp [State.closeAt]

@[simp] theorem State.unacked_targetPoint (s : State) : s.targetPoint.engine.unacked = s.engine.unacked := by
  unfold State.targetPoint State.readPoint State.writePoint; (repeat' split) <;> simp

@[simp] theorem State.unacked_senderDone (s : State) : s.senderDone.engine.unacked = s.engine.unacked := by
  unfold State.senderDone; (repeat' split) <;> simp

@[simp] theorem State.unacked_goBack (s : State) : s.goBack.engine.unacked = s.engine.unacked := by
  unfold State.goBack; dsimp only; (repeat' split) <;> simp_all

@[simp] theorem State.received_beginClosing (s : State) : s.beginClosing.bus.received = s.bus.received := by
  unfold State.beginClosing State.drive; (repeat' split) <;> simp

@[simp] theorem State.received_pump (s : State) : s.pump.bus.received = s.bus.received := by
  unfold State.pump; (repeat' split) <;> simp

@[simp] theorem State.received_send (s : State) (f : Frame) : (s.send f).bus.received = s.bus.received := by
  simp [State.send]

@[simp] theorem State.received_sendBody (s : State) (b : Body) : (s.sendBody b).bus.received = s.bus.received := by
  simp [State.sendBody]

@[simp] theorem State.received_close (s : State) (c : ClosingFrame) : (s.close c).bus.received = s.bus.received := by
  simp [State.close]

@[simp] theorem State.received_closeAt (s : State) (complete : Bool) (r : DisconnectReason) :
    (s.closeAt complete r).bus.received = s.bus.received := by simp [State.closeAt]

@[simp] theorem State.received_targetPoint (s : State) : s.targetPoint.bus.received = s.bus.received := by
  unfold State.targetPoint State.readPoint State.writePoint; (repeat' split) <;> simp

@[simp] theorem State.received_senderDone (s : State) : s.senderDone.bus.received = s.bus.received := by
  unfold State.senderDone; (repeat' split) <;> simp

@[simp] theorem State.received_yieldPath (s : State) : s.yieldPath.bus.received = s.bus.received := by
  unfold State.yieldPath; (repeat' split) <;> rfl

end Sys2Proof.Machine
end

section
/-! The local port's requesters, the data mover and the Connection Engine, as moves of the tables (files 05, 06, 09, 11). -/

namespace Sys2Proof.Machine

namespace State.Follows

variable {j : Option SlotId} {s t u : State}

/-! ### Loader, note copier and completion writer -/

theorem freeLoading (h : Follows j s t) (i : SlotId) : Follows j s (t.freeLoading i) :=
  ite (fun loading => h.leaveLoading loading (by simp [Slot.blank])) fun _ => h

theorem loadStopped (h : Follows j s t) : Follows j s t.loadStopped := by
  unfold State.loadStopped
  split
  · exact ((h.frame (by rfl)).freeLoading _).finish _ _
  · exact h

theorem loaderFault (h : Follows j s t) : Follows j s t.loaderFault := by
  have quiet : Follows j s { t with loader := none } := h.frame (by rfl)
  unfold State.loaderFault
  split
  · exact h
  · refine ite (fun _ => h.loadStopped) fun _ => ?_
    dsimp only
    split
    · exact (quiet.freeLoading _).finish _ _ _
    · exact ((h.frame (by rfl)).raise _).finish _ _ _

theorem loaderAsk (h : Follows j s t) : Follows j s t.loaderAsk := by
  unfold State.loaderAsk
  split
  · exact h
  · exact ite (fun _ => h.loaderFault) fun _ => h.frame (by simp [alike])

theorem placeSlot (h : Follows j s t) (i : SlotId) (d : Descriptor) : Follows j s (t.placeSlot i d) := by
  refine ite (fun _ => h) fun old => ?_
  have loading : (t.slot i).state = .loading := not_not.mp old
  have started (x : Slot) (state : x.state = .loading) : Follows j s (t.setSlot i x) :=
    h.startRepetition (state.trans loading.symm) (.inr loading)
  exact ite (fun _ => h.leaveLoading loading (by simp)) fun _ =>
    ite (fun _ => (started _ rfl).finishSlot i _) fun _ => (started _ rfl).queueSlot i

theorem descriptorLoaded (h : Follows j s t) (i : SlotId) (bytes : List Byte) :
    Follows j s (t.descriptorLoaded i bytes) := by
  unfold State.descriptorLoaded
  dsimp only
  split
  · exact (h.freeLoading i).finish _ _ _
  · exact (h.placeSlot i _).finish _ _ _

theorem configLoaded (h : Follows j s t) (bytes : List Byte) : Follows j s (t.configLoaded bytes) := by
  unfold State.configLoaded
  dsimp only
  split
  · exact ((h.frame (by rfl)).raise _).finish _ _ _
  · refine (raise ?_ _).finish _ _
    exact h.move (fun _ _ => .windows _ (by simp [WindowBlock.entry])) le_rfl ⟨rfl, rfl, rfl⟩

theorem loaderRead (h : Follows j s t) (data : List Byte) : Follows j s (t.loaderRead data) := by
  have quiet : Follows j s { t with loader := none } := h.frame (by rfl)
  unfold State.loaderRead
  split
  · exact h
  · refine ite (fun _ => h.loadStopped) fun _ => ite (fun _ => ?_) fun _ => ?_
    · exact loaderAsk (h.frame (by rfl))
    · dsimp only
      split
      · exact quiet.descriptorLoaded _ _
      · exact quiet.configLoaded _

theorem copyEnded (h : Follows j s t) : Follows j s t.copyEnded := by
  have taken : Follows j s { t with
      copier := none, notes := { t.notes with stored := t.notes.stored.tail, copying := false } } := by
    refine h.noted (fun before => le_trans (Nat.add_le_add_right ?_ _) (h.notes before)) ⟨rfl, rfl, rfl⟩
    exact List.length_tail.trans_le (Nat.sub_le _ _)
  exact ite (fun _ => taken.finish _ _ _) fun _ => (h.frame (by rfl)).finish _ _ _

theorem copierWrote (h : Follows j s t) (n : Nat) : Follows j s (t.copierWrote n) := by
  unfold State.copierWrote
  split
  · exact h
  · exact ite (fun _ => h.frame (by simp [alike])) fun _ => h.copyEnded

theorem copierFault (h : Follows j s t) : Follows j s t.copierFault := by
  have freed : Follows j s { t with copier := none, notes := { t.notes with copying := false } } :=
    h.noted (fun before => h.notes before) ⟨rfl, rfl, rfl⟩
  exact freed.finish _ _ _

theorem writerFault (h : Follows j s t) (addr : Nat) : Follows j s (t.writerFault addr) :=
  raise (h.frame (by rfl)) _

theorem writerAsk (h : Follows j s t) : Follows j s t.writerAsk := by
  unfold State.writerAsk
  split
  · exact h
  · exact ite (fun _ => h.writerFault _) fun _ => h.frame (by simp [alike])

theorem recordEnded (h : Follows j s t) (r : Record) (written : (t.slot r.slot).state = .finished → j = some r.slot) :
    Follows j s (t.recordEnded r) := by
  have advanced : Follows j s ({ t with
      host := { t.host with producer := (t.host.producer + 1) % t.settings.ringSize }
      writer := { t.writer with record := none } } : State) := h.frame (by rfl)
  have ended := (advanced.raise .completion).recordWritten (i := r.slot) r.more written
  exact ite (fun _ => (ended.frame (by rfl))) fun _ => ended

theorem writerWrote (h : Follows j s t) (n : Nat)
    (written : ∀ r, t.writer.record = some r → (t.slot r.slot).state = .finished → j = some r.slot) :
    Follows j s (t.writerWrote n) := by
  unfold State.writerWrote
  split
  · exact h
  · next r record =>
    exact ite (fun _ => writerAsk (h.frame (by rfl))) fun _ => h.recordEnded r (written r record)

theorem takeRecord (h : Follows j s t) : Follows j s t.takeRecord := by
  unfold State.takeRecord
  split
  · next i _ _ _ _ =>
    have cleared : Follows j s (t.setSlot i (t.slot i).clearMissed) := h.setSlot_same (by rfl) (by rfl)
    exact ite (fun _ => writerAsk (cleared.frame (by rfl))) fun _ => h
  · exact h

/-! ### Data mover -/

theorem progressTo (h : Follows j s t) (p : Nat) (c : Cursor) : Follows j s (t.progressTo p c) := by
  unfold State.progressTo
  split
  · exact h.setSlot rfl fun rep => ⟨rep, le_max_left _ _⟩
  · exact h.updateEntry _ fun _ => ⟨rfl, rfl, rfl, rfl, rfl⟩

theorem moverAsk (h : Follows j s t) : Follows j s t.moverAsk := h.frame (by simp [alike])

theorem feed (h : Follows j s t) : Follows j s t.feed := h.frame (by simp [alike])

theorem storeEnded (h : Follows j s t) (x : HeldPayload) : Follows j s (t.storeEnded x) :=
  ((h.frame (by rfl)).progressTo _ _).moverAsk

theorem moverWrote (h : Follows j s t) (n : Nat) : Follows j s (t.moverWrote n) := by
  have advanced : Follows j s (t.advance n) := h.frame (by simp [alike])
  unfold State.moverWrote
  split
  · exact h
  · exact ite (fun _ => moverAsk (advanced.frame (by rfl))) fun _ => advanced.storeEnded _

/-! ### Connection Engine -/

/-- The unacknowledged list changes and stays within the credit. -/
theorem acked (h : Follows j s t) (credit : Credit s → Credit u)
    (same : u.sched = t.sched ∧ u.service = t.service ∧ u.notes = t.notes ∧ u.mem = t.mem ∧
      u.bus.received = t.bus.received) : Follows j s u := by
  obtain ⟨sched, service, notes, mem, received⟩ := same
  refine ⟨sched ▸ h.slots, service ▸ h.table, fun before => ?_, credit, fun form => ?_, fun empty => ?_⟩
  · rw [notePlaces_iff, notes, service]; exact h.notes before
  · unfold MemoryForm; rw [mem]; exact h.mem form
  · unfold BufferEmpty; rw [received]; exact h.buffer empty

/-- The unacknowledged list is emptied. -/
theorem listEmptied (h : Follows j s t) (empty : u.engine.unacked = [])
    (same : u.sched = t.sched ∧ u.service = t.service ∧ u.notes = t.notes ∧ u.mem = t.mem ∧
      u.bus.received = t.bus.received) : Follows j s u := by
  refine h.acked (fun _ => ?_) same
  unfold Credit
  rw [empty]
  exact Nat.zero_le _

theorem targetPoint (h : Follows j s t) : Follows j s t.targetPoint := h.frame (by simp [alike])

theorem pump (h : Follows j s t) : Follows j s t.pump := h.frame (by simp [alike])

theorem sendBody (h : Follows j s t) (b : Body) : Follows j s (t.sendBody b) := h.frame (by simp [alike])

theorem beginTenure (h : Follows j s t) (start : Nat) : Follows j s (t.beginTenure start) := by
  have cleared (e : Engine) (empty : e.unacked = []) : Follows j s ({ t with engine := e } : State).moverRestart := by
    refine h.acked (fun _ => ?_) (by simp)
    simp [Credit, empty]
  exact (cleared _ rfl).feed.targetPoint

theorem endSide (h : Follows j s t) (o : ExchangeOutcome) : Follows j s (t.endSide o) := by
  have left := h.leaveConnection
  unfold State.endSide
  dsimp only
  split
  · exact ite (fun _ => left.finishSlot _ _) fun _ => left
  · exact left.dropEntry _

theorem endSilent (h : Follows j s t) : Follows j s t.endSilent := by
  have left := h.leaveConnection
  unfold State.endSilent
  dsimp only
  split
  · exact ite (fun _ => left.finishSlot _ _) fun _ => left
  · exact ite (fun _ => left.dropEntry _) fun _ => left

theorem senderDone (h : Follows j s t) : Follows j s t.senderDone := h.frame (by simp [alike])

theorem acknowledge (h : Follows j s t) (acked rest : List SentFrame) (shorter : rest.length ≤ t.engine.unacked.length) :
    Follows j s (t.acknowledge acked rest) := by
  unfold State.acknowledge
  split
  · exact h
  · next f _ =>
    have risen := h.progressTo (f.pos + f.len) f.endCursor
    have short (before : Credit s) : rest.length ≤ Config.credit := shorter.trans (h.credit before)
    dsimp only
    split
    · exact risen.acked short (by simp)
    · exact risen.acked short (by simp)

theorem drive (h : Follows j s t) (f : Frame) : Follows j s (t.drive f) := h.frame (by rfl)

theorem checkRetries (h : Follows j s t) : Follows j s t.checkRetries := h.frame (by simp [alike])

theorem goBack (h : Follows j s t) : Follows j s t.goBack := by
  unfold State.goBack
  split
  · exact h
  · exact h.frame (by simp [alike])

theorem takeAck (h : Follows j s t) (q : SeqNo) : Follows j s (t.takeAck q) := by
  refine ite (fun _ => (h.acknowledge _ _ ?_).senderDone.feed) fun _ => h
  exact (List.drop_sublist _ _).length_le.trans (List.dropWhile_sublist _).length_le

theorem takeNak (h : Follows j s t) (q : SeqNo) : Follows j s (t.takeNak q) :=
  ite (fun _ => (h.acknowledge _ _ (List.dropWhile_sublist _).length_le).goBack) fun _ =>
    ite (fun _ => (h.acknowledge _ _ (Nat.zero_le _)).senderDone.feed) fun _ => h

/-- A new frame joins the list only while the credit is open (R84). -/
theorem sendDataFrame (h : Follows j s t) : Follows j s t.sendDataFrame := by
  unfold State.sendDataFrame
  split
  · exact h
  · refine ite (fun may => ?_) fun _ => h
    obtain ⟨-, -, -, -, next⟩ := may
    refine ((drive ?_ _).checkRetries).feed
    refine h.acked (fun before => ?_) ⟨rfl, rfl, rfl, rfl, rfl⟩
    change List.length (if _ then _ else _) ≤ Config.credit
    split
    · rw [List.length_map]; exact h.credit before
    · next new =>
      unfold State.nextFrame? at next
      rw [Option.not_isSome_iff_eq_none.mp new] at next
      dsimp only at next
      split at next
      · next may => rw [List.length_append]; exact may.1
      · cases next

end State.Follows
end Sys2Proof.Machine
end

section
/-! The Engine's answers, Station Control, the frames received and sent, local transactions and host commands, as moves of the
tables (files 03 to 12). -/

namespace Sys2Proof.Machine

/-- The slot whose record a completed write may finish (R170). -/
def State.writes (s : State) : Option SlotId :=
  (s.writer.record.map (·.slot)).filter fun i => (s.slot i).state = .finished

/-- A dropped entry is in the table no more (R35). -/
theorem State.dropEntry_fresh (s : State) (k : Key) : ∀ e ∈ (s.dropEntry k).service.entries, e.key ≠ k := by
  cases found : s.entry? k with
  | none =>
    rw [State.dropEntry_of_none s k found]
    exact Service.entry?_eq_none found
  | some e =>
    have kept (u : State) (w : WindowId) : (u.windowCheck w).service.entries = u.service.entries := by
      unfold State.windowCheck
      split <;> rfl
    intro x hx
    simp only [State.dropEntry, found, Option.isSome_some, if_true, State.removeEntry_found found, State.raise_frame,
      kept] at hx
    have hx : x ∈ (s.service.remove k e.stamp).entries := by
      split at hx
      · simpa using hx
      · exact hx
    rw [Service.remove, closeStamp_eq_map] at hx
    obtain ⟨y, hy, rfl⟩ := List.mem_map.mp hx
    simpa using (List.mem_filter.mp hy).2

/-- A READ or WRITE that passes its checks finds room in the table, and a free place for the note it announces (R32). -/
theorem State.room_of_windowRefusal? {s : State} {src : StationId} {o : Operation} {x : Window} {offset length : Nat}
    (passed : s.windowRefusal? src o x offset length = none) :
    s.service.entries.length < Config.serviceEntries ∧ (o = .write ∧ x.announce = true → s.freePlace = true) := by
  simp only [State.windowRefusal?, ite_eq_iff, reduceCtorEq, and_false, false_or] at passed
  obtain ⟨-, -, -, room, place, -⟩ := passed
  refine ⟨not_le.mp room, fun announced => ?_⟩
  by_contra full
  exact place ⟨announced.1, announced.2, by simpa using full⟩

theorem State.places_of_freePlace (s : State) (free : s.freePlace = true) :
    s.notes.stored.length + (s.notes.reserved.toNat + s.service.reserved) < Config.notePlaces :=
  of_decide_eq_true free

namespace State.Follows

variable {j : Option SlotId} {s t u : State}

/-! ### Receiver and answers -/

theorem takeInOrder (h : Follows j s t) (seq : SeqNo) (payload : List Byte)
    (reserved : t.engine.op = .note → t.engine.role = .target → t.notes.reserved = true) :
    Follows j s (t.takeInOrder seq payload) :=
  ite (fun note => (h.frame (by rfl)).storeMessage _ _ (reserved note.2 note.1)) fun _ => moverAsk (h.frame (by rfl))

theorem takeAhead (h : Follows j s t) : Follows j s t.takeAhead := ite (fun _ => h) fun _ => sendBody (h.frame (by rfl)) _

theorem takeData (h : Follows j s t) (seq : SeqNo) (payload : List Byte) : Follows j s (t.takeData seq payload) :=
  ite (fun _ => h) fun _ => ite (fun _ => ite (fun take => h.takeInOrder seq payload take.2.2) fun _ => h) fun _ =>
    ite (fun _ => h.takeAhead) fun _ => h.frame (by rfl)

theorem sendAckFrame (h : Follows j s t) : Follows j s t.sendAckFrame := by
  unfold State.sendAckFrame
  split
  · exact h
  · exact ite (fun _ => drive (h.frame (by rfl)) _) fun _ => h

theorem answerEnd (h : Follows j s t) : Follows j s t.answerEnd := by
  unfold State.answerEnd
  exact sendBody (h.listEmptied (by rfl) (by exact ⟨rfl, rfl, rfl, rfl, rfl⟩)) _

theorem abortFor (h : Follows j s t) (c : AbortCause) : Follows j s (t.abortFor c) := h.frame (by rfl)

theorem takeFinish (h : Follows j s t) (total : Nat) : Follows j s (t.takeFinish total) :=
  ite (fun _ => (h.progressTo _ _).answerEnd.finishSlot _ _) fun _ => h.abortFor _

theorem takeDisconnect (h : Follows j s t) (offset : Nat) : Follows j s (t.takeDisconnect offset) :=
  ite (fun _ => ite (fun _ => (h.progressTo _ _).answerEnd.finishSlot _ _)
    fun _ => (h.progressTo _ _).answerEnd.disconnectSlot _) fun _ => h.abortFor _

theorem closingDone (h : Follows j s t) : Follows j s t.closingDone := by
  unfold State.closingDone
  dsimp only
  split
  · exact h.leaveConnection.settleFinish _
  · exact h.leaveConnection.settleDisconnect _
  · exact h.leaveConnection

theorem withdrawDone (h : Follows j s t) : Follows j s t.withdrawDone := h.leaveConnection.retireEntry _

theorem closeAgain (h : Follows j s t) (b : Body) : Follows j s (t.closeAgain b) := sendBody (h.frame (by rfl)) b

theorem closeExpired (h : Follows j s t) : Follows j s t.closeExpired := by
  refine ite (fun _ => ite (fun _ => h.closeAgain _) fun _ => h.withdrawDone) fun _ => ?_
  split
  · exact ite (fun _ => h.closeAgain _) fun _ => h.closingDone
  · exact h

theorem answeringEnds (h : Follows j s t) : Follows j s t.answeringEnds :=
  ite (fun _ => ite (fun _ => h.closingDone) fun _ => h.endSilent) fun _ => h

theorem releaseSeen (h : Follows j s t) : Follows j s t.releaseSeen := by
  refine ite (fun _ => ?_) fun _ => h
  cases t.engine.phase with
  | sending | receiving | awaitingFinish => exact ite (fun _ => h) fun _ => h.endSilent
  | closing => exact ite (fun _ => h.engineIdle) fun _ => h
  | idle | calling | answering => exact h

/-! ### Station Control -/

theorem silence (h : Follows j s t) (p : StationId) : Follows j s (t.silence p) :=
  (((h.frame (by simp [alike])).raise _).peerSilentSlots p).peerSilentEntries p

theorem peerNoAnswer (h : Follows j s t) (p : StationId) : Follows j s (t.peerNoAnswer p) :=
  ite (fun _ => (h.frame (by rfl))) fun _ => ite (fun _ => h.silence p) fun _ => h.frame (by rfl)

/-- The bus is cut or reset: the buffer is empty, and the tables are as they were. -/
theorem cut (h : Follows j s t) (empty : u.bus.received = none)
    (same : u.sched = t.sched ∧ u.service = t.service ∧ u.notes = t.notes ∧ u.engine.unacked = t.engine.unacked ∧
      u.mem = t.mem) : Follows j s u := by
  obtain ⟨sched, service, notes, unacked, mem⟩ := same
  refine ⟨sched ▸ h.slots, service ▸ h.table, fun before => ?_, fun credit => ?_, fun form => ?_, fun _ => empty⟩
  · rw [notePlaces_iff, notes, service]; exact h.notes before
  · unfold Credit; rw [unacked]; exact h.credit credit
  · unfold MemoryForm; rw [mem]; exact h.mem form

theorem goOffline (h : Follows j s t) (cause : OfflineCause) : Follows j s (t.goOffline cause) := by
  refine raise (resetWindows ?_) _
  exact h.cut rfl ⟨rfl, rfl, rfl, rfl, rfl⟩

theorem drainTest (h : Follows j s t) : Follows j s t.drainTest := ite (fun _ => h.goOffline _) fun _ => h

theorem stopLoad (h : Follows j s t) : Follows j s t.stopLoad := h.frame (by simp [alike])

theorem conflictSlots (h : Follows j s t) : Follows j s t.conflictSlots := h.finishWhere _ _

theorem busResetSlots (h : Follows j s t) : Follows j s t.busResetSlots := h.finishWhere _ _

theorem idConflict (h : Follows j s t) : Follows j s t.idConflict := by
  have cleared : Follows j s { t.engineIdle with notes := .empty } := by
    refine h.engineIdle.noted (fun before => ?_) ⟨rfl, rfl, rfl⟩
    have bound := h.notes before
    rw [notePlaces_iff] at bound ⊢
    exact le_trans (Nat.add_le_add (Nat.zero_le _) (Nat.add_le_add_right (Nat.zero_le _) _)) bound
  unfold State.idConflict
  dsimp only
  exact cleared.stopLoad.conflictSlots.emptyTable.goOffline _

theorem busReset (h : Follows j s t) : Follows j s t.busReset := by
  have cut : Follows j s { t.engineIdle with bus := t.bus.reset, arb := .clear } :=
    h.engineIdle.cut rfl ⟨rfl, rfl, rfl, rfl, rfl⟩
  have emptied := cut.busResetSlots.emptyTable.holdAll (by simp [State.emptyTable])
  exact (raise (emptied.frame (by simp [alike])) _).drainTest

/-! ### Rounds -/

theorem takeQueueHead (h : Follows j s t) {w : Want} (pick : t.takeQueueHead = some (u, w)) : Follows j s u := by
  unfold State.takeQueueHead at pick
  split at pick
  · cases pick
  · next k rest head =>
    obtain ⟨e, found, taken⟩ := Option.map_eq_some_iff.mp pick
    cases taken
    simp only [decide_eq_true_eq]
    refine h.move (fun _ _ => .take k e rest head found) (le_of_eq ?_) ⟨rfl, rfl, rfl⟩
    exact Service.reserved_map (fun x => by split <;> rfl) _ _

theorem openWant (h : Follows j s t) {w : Want} (pick : t.openWant = some (u, w)) : Follows j s u := by
  unfold State.openWant at pick
  split at pick
  · cases pick
  · split at pick
    · split at pick
      · cases pick
      · cases pick; exact h
    · next none =>
      split at pick
      · cases pick
      · next i rest ready =>
        cases pick
        refine h.slot (.select i rest ready fun k selected => ?_) ⟨rfl, rfl, rfl⟩
        exact absurd (decide_eq_true selected) (List.find?_eq_none.mp none k (mem_slotIds k))

theorem pickWant (h : Follows j s t) {w : Want} (pick : t.pickWant = some (u, w)) : Follows j s u := by
  unfold State.pickWant at pick
  split at pick
  · split at pick
    · cases pick; exact h
    · cases pick
  · split at pick
    · cases pick; exact h
    · obtain head | ⟨-, opened⟩ := Option.or_eq_some_iff.mp pick
      · exact h.takeQueueHead head
      · exact h.openWant opened

theorem roundEntry? (h : Follows j s t) {w : Want} (entry : t.roundEntry? = some (u, w)) : Follows j s u := by
  unfold State.roundEntry? at entry
  split at entry
  · exact h.pickWant entry
  · cases entry

theorem contend (h : Follows j s t) : Follows j s t.contend := by
  unfold State.contend
  split
  case h_1 entry => exact (h.roundEntry? entry).frame (by rfl)
  case h_2 => exact h

theorem openCall (h : Follows j s t) (role : ExchangeRole) (k : Key) (purpose : Purpose) (op : Operation) (length : Nat)
    (call : Body) : Follows j s (t.openCall role k purpose op length call) :=
  drive (h.listEmptied (by rfl) (by exact ⟨rfl, rfl, rfl, rfl, rfl⟩)) _

theorem handOver (h : Follows j s t) (w : Want) : Follows j s (t.handOver w) := by
  cases w with
  | rollcall => exact h.drive _
  | connect i => exact h.openCall _ _ _ _ _ _
  | resume k | withdraw k =>
    unfold State.handOver
    dsimp only
    split
    · exact h.openCall _ _ _ _ _ _
    · exact h.releaseLine

theorem roundWon (h : Follows j s t) : Follows j s t.roundWon := by
  unfold State.roundWon
  split
  · exact ite (fun _ => ite (fun _ => releaseLine (h.frame (by rfl))) fun _ => handOver (h.frame (by rfl)) _) fun _ => h
  · exact h

/-! ### Frames received -/

theorem sourceReport (h : Follows j s t) (p : StationId) : Follows j s (t.sourceReport p) :=
  h.frame (by simp [alike])

theorem yieldPath (h : Follows j s t) : Follows j s t.yieldPath := h.frame (by simp [alike])

theorem hear {deliver : State → State} (h : Follows j s t) (head : FrameHead)
    (delivered : ∀ {t : State}, Follows j s t → Follows j s (deliver t)) : Follows j s (t.hear head deliver) := by
  refine ite (fun _ => ?_) fun _ => h
  have taken : Follows j s
      (if head.src = t.ownId then t
        else if head.dst = t.ownId then (deliver (t.sourceReport head.src).yieldPath).pump.drainTest
        else t.sourceReport head.src) :=
    ite (fun _ => h) fun _ => ite (fun _ => (delivered (h.sourceReport _).yieldPath).pump.drainTest) fun _ =>
      h.sourceReport _
  cases t.station.state with
  | offline | configuring => exact h
  | joining => exact h.sourceReport _
  | online | leaving => exact taken

theorem within {take : State → State} (h : Follows j s t) (head : FrameHead)
    (taken : ∀ {t : State}, Follows j s t → Follows j s (take t)) : Follows j s (t.within head take) :=
  ite (fun _ => taken (h.frame (by rfl))) fun _ => h

theorem answerContext (h : Follows j s t) (head : FrameHead) (role : ExchangeRole) (purpose : Purpose) (op : Operation)
    (length : Nat) : Follows j s (t.answerContext head role purpose op length) :=
  h.acked (fun _ => Nat.zero_le _) ⟨rfl, rfl, rfl, rfl, rfl⟩

theorem refuse (h : Follows j s t) (r : RefuseReason) : Follows j s (t.refuse r) := h.sendBody _

theorem close (h : Follows j s t) (c : ClosingFrame) : Follows j s (t.close c) := h.frame (by simp [alike])

/-- A CONNECT that passed the checks of R32 makes its entry (R34). -/
theorem addEntry (h : Follows j s t) {src : StationId} {k : Key} {o : Operation} {w : WindowId} {offset length : Nat}
    (fresh : ∀ e ∈ t.service.entries, e.key ≠ k)
    (passed : t.windowRefusal? src o (t.window w) offset length = none) :
    Follows j s (t.addEntry (t.newEntry k o w offset length)) := by
  obtain ⟨room, place⟩ := State.room_of_windowRefusal? passed
  have state : ((t.newEntry k o w offset length).state = .connected ∧ (t.newEntry k o w offset length).stamp = none ∧
        (t.window w).hold = .ready) ∨ ((t.newEntry k o w offset length).state = .parked ∧
        (t.newEntry k o w offset length).stamp = some (parkedCount t.service.entries + 1)) := by
    by_cases ready : (t.window w).hold = .ready
    · exact .inl (by simp [State.newEntry, ready])
    · exact .inr (by simp [State.newEntry, ready])
  refine h.next .refl (fun _ _ => .single (.add _ fresh room state)) (fun before => ?_) rfl
  have bound := h.notes before
  rw [notePlaces_iff] at bound ⊢
  change _ + (_ + (List.filter _ (t.service.entries ++ [t.newEntry k o w offset length])).length) ≤ _
  rw [List.filter_append, List.length_append]
  change _ + (_ + (t.service.reserved + _)) ≤ _
  cases reservation : (t.newEntry k o w offset length).reservation with
  | false => simpa [reservation] using bound
  | true =>
    have announced : o = .write ∧ (t.window w).announce = true := by simpa [State.newEntry] using reservation
    have free := t.places_of_freePlace (place announced)
    simp only [reservation, List.filter_cons, if_true, List.filter_nil, List.length_singleton]
    change t.notes.stored.length + (t.notes.reserved.toNat + (t.service.reserved + 1)) ≤ _
    omega

theorem takeConnect (h : Follows j s t) (head : FrameHead) (operation window : Byte) (offset length : Nat) :
    Follows j s (t.takeConnect head operation window offset length) := by
  have dropped : Follows j s (t.dropEntry (keyOf head)) := h.dropEntry _
  have fresh := t.dropEntry_fresh (keyOf head)
  unfold State.takeConnect
  dsimp only
  generalize t.dropEntry (keyOf head) = u at dropped fresh
  have context (o : Operation) := dropped.answerContext head .target .connect o length
  refine ite (fun _ => (context .read).refuse _) fun _ => ?_
  split
  · exact (context .read).refuse _
  · next o _ =>
    split
    · exact (context o).refuse _
    · next passed =>
      have free : u.freePlace = true := by
        simp only [State.noteRefusal?, ite_eq_iff, reduceCtorEq, and_false, false_or] at passed
        simpa using passed.2.1
      have reserved : Follows j s { u.answerContext head .target .connect o length with
          notes := { u.notes with reserved := true } } := by
        refine (context o).noted (fun _ => ?_) ⟨rfl, rfl, rfl⟩
        have bound := u.places_of_freePlace free
        rw [notePlaces_iff]
        change u.notes.stored.length + (1 + u.service.reserved) ≤ _
        omega
      exact reserved.sendBody _
  · next o w _ =>
    split
    · exact (context o).refuse _
    · next passed =>
      have added := (context o).addEntry (k := keyOf head) (w := w) (offset := offset) (src := head.src) fresh passed
      exact ite (fun _ => added.sendBody _) fun _ => added.close _

end State.Follows
end Sys2Proof.Machine
end

section
/-! Every command moves the tables as `Follows` says, but for SOFT_RESET and power-on, which clear them. -/

namespace Sys2Proof.Machine

namespace State.Follows

variable {j : Option SlotId} {s t u : State}

/-! ### Frames of the open connection -/

theorem takeResume (h : Follows j s t) (head : FrameHead) (offset : Nat) : Follows j s (t.takeResume head offset) := by
  have context := h.answerContext head .initiator .resume (t.slot head.slot).op (t.slot head.slot).length
  exact ite (fun _ => ite (fun _ => (context.activateSlot _).sendBody _) fun _ => (context.finishSlot _ _).refuse _) fun _ =>
    context.refuse _

theorem takeWithdraw (h : Follows j s t) (head : FrameHead) (reason : WithdrawReason) :
    Follows j s (t.takeWithdraw head reason) := by
  have context := h.answerContext head .initiator .withdraw (t.slot head.slot).op (t.slot head.slot).length
  exact ite (fun _ => (context.finishSlot _ _).answerEnd) fun _ => context.refuse _

theorem endAgain (h : Follows j s t) : Follows j s t.endAgain := sendBody (h.frame (by rfl)) _

theorem closeAtOnce (h : Follows j s t) (c : ClosingFrame) : Follows j s (t.closeAtOnce c) := sendBody (h.frame (by rfl)) _

/-- A RESUMING entry on a READY window is CONNECTED (R38). -/
theorem connectEntry (h : Follows j s t) {k : Key} {e : Entry} (found : t.entry? k = some e) (old : e.state = .resuming)
    (ready : (t.window e.window).hold = .ready) :
    Follows j s (t.updateEntry k fun x => { x with state := .connected, noAnswers := 0 }) :=
  by
  refine h.move (fun _ _ => .connect k e found old ready) (le_of_eq ?_) ⟨rfl, rfl, rfl⟩
  exact Service.reserved_map (fun x => by split <;> rfl) _ _

theorem resumeAccepted (h : Follows j s t) (offset : Nat) : Follows j s (t.resumeAccepted offset) := by
  have stopped : Follows j s t.stopAnswerTimer := h.frame (by rfl)
  unfold State.resumeAccepted
  dsimp only
  split
  · exact stopped.leaveConnection
  · next e found =>
    refine ite (fun _ => stopped.abortFor _) fun _ => ite (fun _ => stopped.leaveConnection) fun old => ?_
    refine ite (fun ready => (stopped.connectEntry found (not_not.mp old) ready).beginTenure _) fun _ => ?_
    have counted : Follows j s (t.stopAnswerTimer.updateEntry t.stopAnswerTimer.engine.key fun x => { x with noAnswers := 0 }) :=
      stopped.updateEntry _ fun _ => ⟨rfl, rfl, rfl, rfl, rfl⟩
    exact (counted.parkAndCheck _).closeAtOnce _

theorem takeAccept (h : Follows j s t) (offset : Nat) : Follows j s (t.takeAccept offset) := by
  refine ite (fun _ => ?_) fun _ => h
  cases t.engine.purpose with
  | connect => exact (h.activateSlot _).beginTenure _
  | resume => exact h.resumeAccepted offset
  | withdraw => exact h

theorem takeRefuse (h : Follows j s t) (reason : RefuseReason) : Follows j s (t.takeRefuse reason) := by
  refine ite (fun _ => ?_) fun _ => h
  cases t.engine.purpose with
  | connect => exact h.leaveConnection.callRefused _ _
  | resume => exact h.leaveConnection.dropEntry _
  | withdraw => exact h.withdrawDone

theorem takeDisconnectFrame (h : Follows j s t) (reason : DisconnectReason) (offset : Nat) :
    Follows j s (t.takeDisconnectFrame reason offset) :=
  ite (fun _ => ite (fun _ => h.answerEnd.callHeld _) fun _ => h) fun _ => ite (fun _ => h.takeDisconnect offset) fun _ =>
    ite (fun _ => h.endAgain) fun _ => h

theorem takeFinishFrame (h : Follows j s t) (total : Nat) : Follows j s (t.takeFinishFrame total) :=
  ite (fun _ => h.takeFinish total) fun _ => ite (fun _ => h.endAgain) fun _ => h

theorem takeEnd (h : Follows j s t) : Follows j s t.takeEnd :=
  ite (fun _ => h.withdrawDone) fun _ => ite (fun _ => h.closingDone) fun _ => h

theorem takeDataFrame (h : Follows j s t) (seq : SeqNo) (payload : List Byte) :
    Follows j s (t.takeDataFrame seq payload) := ite (fun _ => h.takeData seq payload) fun _ => h

theorem takeAckFrame (h : Follows j s t) (seq : SeqNo) : Follows j s (t.takeAckFrame seq) :=
  ite (fun _ => h.takeAck seq) fun _ => h

theorem takeNakFrame (h : Follows j s t) (seq : SeqNo) : Follows j s (t.takeNakFrame seq) :=
  ite (fun _ => h.takeNak seq) fun _ => h

theorem takeAbort (h : Follows j s t) (reason : AbortReason) : Follows j s (t.takeAbort reason) :=
  ite (fun _ => h) fun _ => h.endSide _

theorem takeCallAgain (h : Follows j s t) (body : Body) : Follows j s (t.takeCallAgain body) := by
  unfold State.takeCallAgain
  split
  · exact ite (fun _ => h.endAgain) fun _ => h
  · exact h

theorem takeCall (h : Follows j s t) (head : FrameHead) (body : Body) : Follows j s (t.takeCall head body) := by
  refine ite (fun _ => ?_) fun _ => h.within head fun h => h.takeCallAgain _
  split
  · exact h.takeConnect _ _ _ _ _
  · exact h.takeResume _ _
  · exact h.takeWithdraw _ _
  · exact h

theorem hearRollCall (h : Follows j s t) (head : FrameHead) : Follows j s (t.hearRollCall head) := by
  have heard := h.sourceReport head.src
  unfold State.hearRollCall
  cases t.station.state with
  | offline | configuring => exact h
  | joining => exact ite (fun _ => heard.goOffline _) fun _ => heard
  | online | leaving =>
    refine ite (fun _ => ?_) fun _ => heard
    exact frame (u := State.answerRollCall _) heard.yieldPath (by simp [alike, State.answerRollCall])

theorem hearPresent (h : Follows j s t) (head : FrameHead) : Follows j s (t.hearPresent head) := by
  unfold State.hearPresent
  cases t.station.state with
  | offline | configuring => exact h
  | joining => exact ite (fun _ => h.goOffline _) fun _ => h.sourceReport _
  | online | leaving => exact ite (fun _ => h) fun _ => h.sourceReport _

theorem takeFrame (h : Follows j s t) (f : Frame) : Follows j s (t.takeFrame f) := by
  unfold State.takeFrame
  cases f.body with
  | connect | resume | withdraw => exact h.hear _ fun h => h.takeCall _ _
  | accept => exact h.hear _ fun h => h.within _ fun h => h.takeAccept _
  | refuse => exact h.hear _ fun h => h.within _ fun h => h.takeRefuse _
  | data => exact h.hear _ fun h => h.within _ fun h => h.takeDataFrame _ _
  | ack => exact h.hear _ fun h => h.within _ fun h => h.takeAckFrame _
  | nak => exact h.hear _ fun h => h.within _ fun h => h.takeNakFrame _
  | finish => exact h.hear _ fun h => h.within _ fun h => h.takeFinishFrame _
  | disconnect => exact h.hear _ fun h => h.within _ fun h => h.takeDisconnectFrame _ _
  | endConnection => exact h.hear _ fun h => h.within _ fun h => h.takeEnd
  | abort => exact h.hear _ fun h => h.within _ fun h => h.takeAbort _
  | rollcall => exact h.hearRollCall _
  | present => exact h.hearPresent _

theorem receiveFrame (h : Follows j s t) (f : Frame) : Follows j s (t.receiveFrame f) := by
  cases receives : t.receives with
  | false => rw [State.receiveFrame_deaf t f receives]; exact h
  | true =>
    rw [State.receiveFrame_of_receives t f receives]
    have emptied : Follows j s { t with bus := { t.bus with received := none } } := h.cut rfl ⟨rfl, rfl, rfl, rfl, rfl⟩
    exact emptied.takeFrame f

theorem receive (h : Follows j s t) (head : FrameHead) (body : Option Body) : Follows j s (t.receive head body) := by
  cases body with
  | none => exact h
  | some b => exact h.receiveFrame ⟨head, b⟩

/-! ### Frames sent -/

theorem callOutGood (h : Follows j s t) : Follows j s t.callOutGood :=
  ite (fun _ => h.leaveConnection) fun _ => ite (fun _ => setSlot_same (h.frame (by rfl)) (by rfl) (by rfl)) fun _ => h.frame (by rfl)

theorem callLost (h : Follows j s t) : Follows j s t.callLost :=
  ite (fun _ => h.leaveConnection.callCollided _) fun _ => h.leaveConnection

theorem withdrawSent (h : Follows j s t) (good : Bool) : Follows j s (t.withdrawSent good) :=
  ite (fun _ => (h.frame (by rfl))) fun _ => ite (fun _ => ite (fun _ => h.leaveConnection) fun _ => (h.frame (by rfl))) fun _ => h.callLost

theorem endDriven (h : Follows j s t) : Follows j s t.endDriven := by
  refine ite (fun _ => ?_) fun _ => h
  cases t.engine.busRole with
  | holder => exact h.leaveConnection
  | answering => exact h.frame (by rfl)

theorem abortDriven (h : Follows j s t) : Follows j s t.abortDriven := by
  unfold State.abortDriven
  split
  · exact h.endSide _
  · exact h

theorem closingDriven (h : Follows j s t) : Follows j s t.closingDriven := by
  have closer : Follows j s { t with engine := t.engine.asCloser } := h.frame (by rfl)
  refine ite (fun _ => ?_) fun _ => h
  exact frame (u := State.startCloseTimer _) (ite (fun _ => h) fun _ => closer) (by rfl)

theorem engineFrameEnd (h : Follows j s t) (f : Frame) (good : Bool) : Follows j s (t.engineFrameEnd f good) := by
  unfold State.engineFrameEnd
  cases f.body with
  | connect | resume => exact ite (fun _ => ite (fun _ => h.callOutGood) fun _ => h.callLost) fun _ => h
  | withdraw => exact ite (fun _ => h.withdrawSent good) fun _ => h
  | accept => exact ite (fun _ => h.beginTenure _) fun _ => h
  | refuse => exact ite (fun _ => h.engineIdle) fun _ => h
  | finish | disconnect => exact h.closingDriven
  | endConnection => exact h.endDriven
  | ack => exact h.targetPoint
  | abort => exact h.abortDriven
  | data | nak | rollcall | present => exact h

theorem frameEnd (h : Follows j s t) (f : Frame) (good : Bool) : Follows j s (t.frameEnd f good) := by
  have engine : Follows j s (if t.ownsFrame f then t.engineFrameEnd f good else t) :=
    ite (fun _ => h.engineFrameEnd f good) fun _ => h
  unfold State.frameEnd
  cases f.body with
  | rollcall => exact ite (fun _ => h) fun _ => ite (fun _ => (h.frame (by rfl))) fun _ => h.goOffline _
  | present => exact h
  | _ => exact engine

theorem sentGood (h : Follows j s t) (f : Frame) : Follows j s (t.sentGood f) := (frameEnd (h.frame (by rfl)) f true).drainTest

theorem runTest (h : Follows j s t) : Follows j s t.runTest := ite (fun _ => h.idConflict) fun _ => h

theorem sentLost (h : Follows j s t) (f : Frame) : Follows j s (t.sentLost f) :=
  ((frameEnd ((h.frame (by rfl)).raise .collision) f false).runTest).drainTest

theorem sendAbortFrame (h : Follows j s t) : Follows j s t.sendAbortFrame := by
  unfold State.sendAbortFrame
  split
  · exact h
  · exact ite (fun _ => (h.frame (by rfl))) fun _ => h

/-! ### Local transactions -/

theorem store (h : Follows j s t) (a : Nat) (bytes : List Byte) : Follows j s (t.store a bytes) :=
  ⟨h.slots, h.table, h.notes, h.credit, fun form => Memory.wf_write _ _ _ (h.mem form), h.buffer⟩

theorem applyTransaction (h : Follows j s t) (x : Transaction) : Follows j s (t.applyTransaction x) := by
  cases x with
  | read a n => exact h
  | write a bytes => exact h.store a bytes

theorem requesterGoesOn (h : Follows j s t) (g : Granted) (data : List Byte)
    (written : ∀ r, t.writer.record = some r → (t.slot r.slot).state = .finished → j = some r.slot) :
    Follows j s (t.requesterGoesOn g data) := by
  unfold State.requesterGoesOn
  split
  · exact h.frame (by simp [alike])
  · exact h.moverWrote _
  · exact h.frame (by simp [alike])
  · exact h.writerWrote _ written
  · exact h.copierWrote _
  · exact h.loaderRead _

theorem requesterFaults (h : Follows j s t) (g : Granted) : Follows j s (t.requesterFaults g) := by
  unfold State.requesterFaults
  cases g.who with
  | mover | walker => exact h.frame (by simp [alike])
  | writer => exact h.writerFault _
  | copier => exact h.copierFault
  | loader => exact h.loaderFault

theorem discardedEnds (h : Follows j s t) (g : Granted) : Follows j s (t.discardedEnds g) :=
  ite (fun _ => h.moverAsk) fun _ => h

theorem grant (h : Follows j s t) : Follows j s t.grant := h.frame (by rfl)

theorem transactionEnds (h : Follows j s t) (data : List Byte)
    (written : ∀ r, t.writer.record = some r → (t.slot r.slot).state = .finished → j = some r.slot) :
    Follows j s (t.transactionEnds data) := by
  unfold State.transactionEnds
  split
  · exact ite (fun _ => applyTransaction (h.frame (by rfl)) _) fun _ => h
  · split
    · exact h
    · next g _ =>
      refine ite (fun _ => ?_) fun _ => h
      have applied : Follows j s { t.applyTransaction g.txn with port := t.port.settle } := 
        (h.applyTransaction g.txn).frame (by rfl)
      refine (grant (ite (fun _ => applied.discardedEnds g) fun _ => applied.requesterGoesOn g data ?_)).drainTest
      simpa [State.slot] using written

theorem transactionFails (h : Follows j s t) : Follows j s t.transactionFails := by
  unfold State.transactionFails
  split
  · exact h.frame (by rfl)
  · split
    · exact h
    · exact (grant (ite (fun _ => discardedEnds (h.frame (by rfl)) _) fun _ => requesterFaults (h.frame (by rfl)) _)).drainTest

/-! ### Host commands and register writes -/

theorem doJoin (h : Follows j s t) (a : Word) : Follows j s (State.doJoin a t) :=
  ite (fun _ => loaderAsk (raise (h.frame (by rfl)) _)) fun _ => h.finish _ _

theorem doLeave (h : Follows j s t) : Follows j s t.doLeave :=
  ite (fun _ => (leaveEntries (leaveSlots (raise (h.frame (by rfl)) _))).drainTest.finish _ _) fun _ => h.finish _ _

theorem doPeerReset (h : Follows j s t) (a : Word) : Follows j s (State.doPeerReset a t) := by
  refine ite (fun _ => ?_) fun _ => h.finish _ _
  split
  · exact h.finish _ _
  · exact ite (fun _ => h.finish _ _) fun _ => (h.frame (by rfl)).finish _ _

theorem doPost (h : Follows j s t) (a : Word) : Follows j s (State.doPost a t) := by
  refine ite (fun _ => h.finish _ _) fun _ => ?_
  split
  · exact h.finish _ _
  · next i free =>
    have isFree : (t.slot i).state = .free := by simpa using List.find?_some free
    have loading : Follows j s (t.modSlot i fun x => { Slot.blank x.gen with state := .loading }) :=
      h.startLoading isFree (by simp)
    exact loaderAsk (loading.frame (by rfl))

theorem doCancel (h : Follows j s t) (a : Word) : Follows j s (State.doCancel a t) := by
  unfold State.doCancel
  split
  · exact h.finish _ _
  · next tag _ =>
    have cancelled := h.cancelSlot tag.slot
    refine ite (fun _ => ?_) fun _ => h.finish _ _
    exact (ite (fun _ => cancelled.frame (by simp [alike])) fun _ => cancelled).drainTest.finish _ _

theorem doStopStanding (h : Follows j s t) (a : Word) : Follows j s (State.doStopStanding a t) := by
  unfold State.doStopStanding
  split
  · exact h.finish _ _
  · split
    · exact h.finish _ _
    · exact ite (fun _ => (h.stopSlot _ _).finish _ _) fun _ => h.finish _ _

theorem holdReaches (h : Follows j s t) (w : WindowId) : Follows j s (t.holdReaches w) :=
  ite (fun _ => targetPoint (ite (fun _ => h.frame (by simp [alike])) fun _ => h)) fun _ => h

theorem doHold (h : Follows j s t) (a : Word) : Follows j s (State.doHold a t) := by
  refine ite (fun _ => ?_) fun _ => h.finish _ _
  split
  · exact h.finish _ _
  · split
    · exact ((h.holdReady _).holdReaches _).finish _ _
    · exact h.finish _ _
    · exact (h.raise _).finish _ _

theorem doRelease (h : Follows j s t) (a : Word) : Follows j s (State.doRelease a t) := by
  refine ite (fun _ => ?_) fun _ => h.finish _ _
  split
  · exact h.finish _ _
  · split
    · exact h.finish _ _
    · exact (h.releaseHeld _).feed.finish _ _
    · exact (h.releaseHeld _).feed.finish _ _

theorem copierAsk (h : Follows j s t) : Follows j s t.copierAsk := h.frame (by simp [alike])

theorem doTakeNote (h : Follows j s t) (a : Word) : Follows j s (State.doTakeNote a t) := by
  refine ite (fun _ => h.finish _ _) fun _ => ?_
  split
  · exact h.finish _ _
  · exact copierAsk (h.noted (fun before => h.notes before) ⟨rfl, rfl, rfl⟩)

theorem doBusReset (h : Follows j s t) : Follows j s t.doBusReset := ite (fun _ => (h.frame (by rfl)).finish _ _) fun _ => h.finish _ _

theorem doRingRestart (h : Follows j s t) : Follows j s t.doRingRestart :=
  ite (fun _ => (writerAsk (h.frame (by rfl))).finish _ _) fun _ => h.finish _ _

/-- Every command code but SOFT_RESET's; the cases are numbered as the codes are (12.1). -/
theorem commandWrite (h : Follows j s t) {code : Byte} (other : code ≠ codeSoftReset) :
    Follows j s (t.commandWrite code) := by
  unfold State.commandWrite
  split
  case h_1 => exact h.takeCommand fun a h => h.doJoin a
  case h_2 => exact h.takeCommand fun _ h => h.doLeave
  case h_3 three => exact absurd (BitVec.eq_of_toNat_eq three) other
  case h_4 => exact h.takeCommand fun a h => h.doPeerReset a
  case h_5 => exact h.takeCommand fun a h => h.doPost a
  case h_6 => exact h.takeCommand fun a h => h.doCancel a
  case h_7 => exact h.takeCommand fun a h => h.doStopStanding a
  case h_8 => exact h.takeCommand fun a h => h.doHold a
  case h_9 => exact h.takeCommand fun a h => h.doRelease a
  case h_10 => exact h.takeCommand fun a h => h.doTakeNote a
  case h_11 => exact h.takeCommand fun _ h => h.doBusReset
  case h_12 => exact h.takeCommand fun _ h => h.doRingRestart
  case h_13 => exact h.takeCommand fun _ h => h.finish _ _

theorem writeConsumer (h : Follows j s t) (value : Word) : Follows j s (t.writeConsumer value) :=
  ite (fun _ => ite (fun _ => (h.frame (by rfl))) fun _ => (h.frame (by rfl))) fun _ => h

/-! ### Rounds, trigger lines and timers -/

theorem answeringMeetsRound (h : Follows j s t) : Follows j s t.answeringMeetsRound := by
  refine (answeringEnds (ite (fun _ => ?_) fun _ => h)).drainTest
  split
  · exact ite (fun _ => h) fun _ => h.sentLost _
  · exact h

theorem roundBegins (h : Follows j s t) : Follows j s t.roundBegins := by
  refine ite (fun _ => ?_) fun _ => h
  split
  case h_1 entry => exact (h.roundEntry? entry).frame (by rfl)
  case h_2 => exact answeringMeetsRound (h.frame (by rfl))

theorem edge (h : Follows j s t) (l : TriggerLine) : Follows j s (t.edge l) :=
  raiseIf (foldl _ (fun i _ h => h.edgeSlot l i) h) _ _

theorem answerExpired (h : Follows j s t) : Follows j s t.answerExpired :=
  peerNoAnswer (ite (fun _ => h.leaveConnection.callUnanswered _) fun _ => h.leaveConnection.entryUnanswered _) _

end State.Follows

/-! ### Every command -/

/-- Where a command leads: the tables have moved, or the station was reset. -/
def State.MovesOn (s : State) (r : Result) : Prop :=
  ∀ t, r = .next t → s.Follows s.writes t ∨ t = s.softReset ∨ ∃ levels resetLine, t = s.powerOn levels resetLine

theorem State.MovesOn.next {s t : State} (h : s.Follows s.writes t) : s.MovesOn (.next t) := by
  rintro u ⟨⟩
  exact .inl h

theorem State.MovesOn.softReset {s : State} : s.MovesOn (.next s.softReset) := by
  rintro u ⟨⟩
  exact .inr (.inl rfl)

theorem State.movesOn_commandWrite (s : State) (code : Byte) : s.MovesOn (.next (s.commandWrite code)) := by
  by_cases soft : code = codeSoftReset
  · rw [soft]; exact .softReset
  · exact .next ((Follows.refl s).commandWrite soft)

theorem State.writes_of_record {s : State} {r : Record} (record : s.writer.record = some r)
    (finished : (s.slot r.slot).state = .finished) : s.writes = some r.slot := by
  simp [State.writes, record, finished, Option.filter]

theorem State.finished_of_writes {s : State} {i : SlotId} (writes : s.writes = some i) : (s.slot i).state = .finished := by
  unfold State.writes at writes
  simpa using (Option.filter_eq_some_iff.mp writes).2

theorem exec_movesOn (c : Instr) (s : State) : s.MovesOn (exec c s) := by
  have kept : s.Follows s.writes s := .refl s
  have ends (data : List Byte) : s.Follows s.writes (s.transactionEnds data) :=
    kept.transactionEnds data fun _ => State.writes_of_record
  cases c with
  | join => exact .next (kept.takeCommand fun a h => h.doJoin a)
  | leave => exact .next (kept.takeCommand fun _ h => h.doLeave)
  | softReset => exact .softReset
  | peerReset => exact .next (kept.takeCommand fun a h => h.doPeerReset a)
  | post => exact .next (kept.takeCommand fun a h => h.doPost a)
  | cancel => exact .next (kept.takeCommand fun a h => h.doCancel a)
  | stopStanding => exact .next (kept.takeCommand fun a h => h.doStopStanding a)
  | hold => exact .next (kept.takeCommand fun a h => h.doHold a)
  | release => exact .next (kept.takeCommand fun a h => h.doRelease a)
  | takeNote => exact .next (kept.takeCommand fun a h => h.doTakeNote a)
  | busReset => exact .next (kept.takeCommand fun _ h => h.doBusReset)
  | ringRestart => exact .next (kept.takeCommand fun _ h => h.doRingRestart)
  | undefinedCommandCode code => exact s.movesOn_commandWrite code
  | ringConsumerWrite value => exact .next (kept.writeConsumer value)
  | eventWrite value | eventEnableWrite value => exact .next (kept.frame (by rfl))
  | registerWrite offset value =>
    change s.MovesOn (execRegisterWrite offset value s)
    unfold execRegisterWrite
    split
    · exact s.movesOn_commandWrite _
    · exact .next (kept.frame (by rfl))
    · exact .next kept
    · exact .next kept
    · exact .next (kept.frame (by rfl))
    · exact .next (kept.frame (by rfl))
    · exact .next kept
    · exact .next (kept.writeConsumer value)
    · exact .next kept
    · exact .next kept
    · exact .next kept
    · rintro t ⟨⟩
  | powerOn levels resetLine =>
    rintro t ⟨⟩
    exact .inr (.inr ⟨levels, resetLine, rfl⟩)
  | triggerEdge line => exact .next (.ite (fun _ => kept) fun _ => .edge (kept.frame (by rfl)) line)
  | triggerLineFalls line => exact .next (kept.frame (by rfl))
  | resetLineAsserted => exact .next (.ite (fun _ => kept) fun _ => kept.busReset)
  | resetLineFalls => exact .next (.ite (fun _ => .ite (fun _ => (kept.frame (by rfl))) fun _ => (kept.frame (by rfl))) fun _ => kept)
  | resetPulseEnds => exact .next (kept.frame (by rfl))
  | holdLineDriven => exact .next (.ite (fun _ => .drainTest (kept.answeringEnds.frame (by rfl))) fun _ => kept)
  | releaseGapExpires | restGap => exact .next (.ite (fun _ => (kept.frame (by rfl))) fun _ => kept)
  | turnGapExpires => exact .next (.ite (fun _ => .pump (kept.frame (by rfl))) fun _ => kept)
  | contend => exact .next kept.contend
  | roundBegins => exact .next kept.roundBegins
  | roundWon => exact .next kept.roundWon
  | roundLost | roundNoWinner | roundEnds => exact .next (.ite (fun _ => (kept.frame (by rfl))) fun _ => kept)
  | frameBadCrc bytes =>
    refine .next ?_
    split
    · exact kept.receiveFrame _
    · exact kept
  | connectReceived | acceptReceived | refuseReceived | dataReceived | ackReceived | nakReceived | finishReceived
  | disconnectReceived | endReceived | resumeReceived | withdrawReceived | abortReceived | rollcallReceived
  | presentReceived => exact .next (kept.receive _ _)
  | frameSentGood =>
    refine .next ?_
    split
    · exact kept.sentGood _
    · exact kept
  | collisionDetected =>
    refine .next ?_
    split
    · exact kept.sentLost _
    · exact kept
  | sendData => exact .next kept.sendDataFrame
  | sendAck => exact .next kept.sendAckFrame
  | sendAbort => exact .next kept.sendAbortFrame
  | holdLineReleased => exact .next kept.releaseSeen.drainTest
  | answerTimeout => exact .next (.ite (fun _ => kept.answerExpired.drainTest) fun _ => kept)
  | ackTimeout => exact .next (.ite (fun _ => .ite (fun _ => (kept.frame (by rfl))) fun _ => kept.goBack) fun _ => kept)
  | silenceTimeout => exact .next (.ite (fun _ => .ite (fun _ => (kept.frame (by rfl))) fun _ => kept.endSilent.drainTest) fun _ => kept)
  | closeTimeout => exact .next (.ite (fun _ => kept.closeExpired.drainTest) fun _ => kept)
  | resumeDeadlineExpires i => exact .next (.ite (fun _ => kept.finishSlot i _) fun _ => kept)
  | parkTimerExpires initiator slot gen => exact .next (.ite (fun _ => kept.withdrawEntry _ _) fun _ => kept)
  | rollcallTimerExpires => exact .next (.ite (fun _ => .raise (kept.frame (by rfl)) _) fun _ => kept)
  | localTransactionEnds bytes => exact .next (ends bytes)
  | localBusError => exact .next kept.transactionFails
  | descriptorLoadEnds bytes =>
    refine .next ?_
    split
    · exact ends bytes
    · exact kept
  | configLoadEnds bytes =>
    refine .next ?_
    split
    · exact ends bytes
    · exact kept
  | payloadReadEnds | payloadStoreEnds | segmentEntryFetched | completionRecordWritten | copyOutEnds =>
    exact .next (.ite (fun _ => ends _) fun _ => kept)
  | writerTakesRecord => exact .next kept.takeRecord
  | drainComplete => exact .next kept.drainTest

end Sys2Proof.Machine
end

section
/-! The invariants of the tables, kept by every step (R7, R8, R15, R22, R31, R37, R41, R43, R45, R57, R84, R121). -/

namespace Sys2Proof.Machine

/-! ### After a reset -/

/-- The Exchange Table after SOFT_RESET or power-on: every slot FREE, both lists empty (R27). -/
def Scheduler.Cleared (c : Scheduler) : Prop := (∀ i : SlotId, (c.slot i).state = .free) ∧ c.ready = [] ∧ c.finished = []

theorem Scheduler.Cleared.lists {c : Scheduler} (h : c.Cleared) : c.Lists := by
  obtain ⟨free, ready, finished⟩ := h
  refine ⟨by simp [ready], by simp [finished], fun i => ?_, fun i => ?_⟩
  · simp [ready, free i]
  · simp [finished, free i]

theorem Scheduler.Cleared.oneSelected {c : Scheduler} (h : c.Cleared) : c.OneSelected := fun i _ selected => by
  rw [h.1 i] at selected
  cases selected

theorem Service.empty_table : Service.empty.Table := ⟨Nat.zero_le _, List.nodup_nil, List.nodup_nil, nofun, nofun⟩

theorem Service.empty_holds : Service.empty.Holds := nofun

theorem Service.empty_parks : Service.empty.Parks := ⟨nofun, .nil⟩

/-- Blanking slots one after the other. -/
theorem getElem_foldl_blank (l : List SlotId) (v : Vector Slot 16) (i : SlotId) :
    (l.foldl (fun (v : Vector Slot 16) (i : SlotId) => v.set i (Slot.blank v[i].gen)) v)[i] =
      if i ∈ l then Slot.blank v[i].gen else v[i] := by
  induction l generalizing v with
  | nil => rfl
  | cons k l ih =>
    have set : (v.set k (Slot.blank v[k].gen))[i] = if i = k then Slot.blank v[k].gen else v[i] :=
      Scheduler.slot_put ⟨v, [], []⟩ k i _
    rw [List.foldl_cons, ih, set]
    by_cases e : i = k
    · subst e; simp [Slot.blank]
    · simp [e]

/-- SOFT_RESET keeps the generation of each slot and nothing else (R27). -/
theorem Scheduler.slot_softReset (c : Scheduler) (i : SlotId) : c.softReset.slot i = Slot.blank (c.slot i).gen := by
  have blanked := getElem_foldl_blank slotIds c.slots i
  rw [if_pos (mem_slotIds i)] at blanked
  exact blanked

theorem Scheduler.softReset_cleared (c : Scheduler) : c.softReset.Cleared :=
  ⟨fun i => by rw [c.slot_softReset]; rfl, rfl, rfl⟩

theorem State.slot_powerOn (s : State) (levels : BitVec 4) (resetLine : Bool) (i : SlotId) :
    (s.powerOn levels resetLine).slot i = Slot.blank 0 := Vector.getElem_replicate _

theorem State.powerOn_cleared (s : State) (levels : BitVec 4) (resetLine : Bool) :
    (s.powerOn levels resetLine).sched.Cleared :=
  ⟨fun i => congrArg Slot.state (s.slot_powerOn levels resetLine i), rfl, rfl⟩

/-! ### A step -/

/-- A property that neither the queue of commands nor the step's moves break, and that holds after a reset, is kept. -/
theorem keptByStep_of_follows {P : State → Prop} (queue : ∀ s q, P s → P { s with pending := q })
    (moves : ∀ s t, s.Follows s.writes t → P s → P t) (soft : ∀ s : State, P s → P s.softReset)
    (power : ∀ (s : State) levels resetLine, P (s.powerOn levels resetLine)) : KeptByStep P := by
  intro s t holds taken
  unfold step at taken
  split at taken
  · cases taken; exact holds
  · next c rest _ =>
    have holds := queue s rest holds
    rcases exec_movesOn c { s with pending := rest } t taken with follows | rfl | ⟨levels, resetLine, rfl⟩
    · exact moves _ t follows holds
    · exact soft _ holds
    · exact power _ levels resetLine

/-- Settles O5: the ready list and the finished list under the moves of the Exchange Table. -/
theorem slotListsKept : Obligations.SlotListsKept :=
  keptByStep_of_follows (fun _ _ => id) (fun _ _ follows => follows.slots.keeps fun m => m.keeps_lists)
    (fun s _ => s.sched.softReset_cleared.lists) fun s levels resetLine => (s.powerOn_cleared levels resetLine).lists

/-- Settles O7: the Service Table and the resume queue under the moves of the Service Unit. -/
theorem serviceTableKept : Obligations.ServiceTableKept :=
  keptByStep_of_follows (fun _ _ => id) (fun _ _ follows table => (follows.table table).keeps_table table)
    (fun _ _ => Service.empty_table) fun _ _ _ => Service.empty_table

/-- Settles O8: the hold states under the moves of the Service Unit, which the keys' being distinct makes possible. -/
theorem holdStatesKept : Obligations.HoldStatesKept :=
  keptByStep_of_follows (fun _ _ => id)
    (fun _ _ follows ⟨table, holds⟩ => ⟨(follows.table table).keeps_table table,
      (follows.table table).keeps table (fun m => m.keeps_holds) holds⟩)
    (fun _ _ => ⟨Service.empty_table, Service.empty_holds⟩) fun _ _ _ => ⟨Service.empty_table, Service.empty_holds⟩

/-- Settles O9: the park order under the moves of the Service Unit. -/
theorem parkOrderKept : Obligations.ParkOrderKept :=
  keptByStep_of_follows (fun _ _ => id)
    (fun _ _ follows ⟨table, parks⟩ => ⟨(follows.table table).keeps_table table,
      (follows.table table).keeps table (fun m => m.keeps_parks) parks⟩)
    (fun _ _ => ⟨Service.empty_table, Service.empty_parks⟩) fun _ _ _ => ⟨Service.empty_table, Service.empty_parks⟩

/-- Settles O10: a place is reserved only where one is free, and taken by the note it was reserved for. -/
theorem notePlacesKept : Obligations.NotePlacesKept :=
  keptByStep_of_follows (fun _ _ => id) (fun _ _ follows => follows.notes) (fun _ _ => Nat.zero_le _)
    fun _ _ _ => Nat.zero_le _

/-- Settles O6: the SELECTED slot under the moves of the Exchange Table; the other three bounds stand in `Follows`. -/
theorem selectionCreditAndMemoryKept : Obligations.SelectionCreditAndMemoryKept := by
  refine ⟨?_, ?_, ?_, ?_⟩
  · exact keptByStep_of_follows (fun _ _ => id) (fun _ _ follows => follows.slots.keeps fun m => m.keeps_oneSelected)
      (fun s _ => s.sched.softReset_cleared.oneSelected)
      fun s levels resetLine => (s.powerOn_cleared levels resetLine).oneSelected
  · exact keptByStep_of_follows (fun _ _ => id) (fun _ _ follows => follows.credit) (fun _ _ => Nat.zero_le _)
      fun _ _ _ => Nat.zero_le _
  · exact keptByStep_of_follows (fun _ _ => id) (fun _ _ follows => follows.mem) (fun _ => id) fun _ _ _ => (by decide : Memory.wf [] = true)
  · exact keptByStep_of_follows (fun _ _ => id) (fun _ _ follows => follows.buffer) (fun _ _ => rfl) fun _ _ _ => rfl

/-- Settles O12: no move of the Exchange Table lowers the progress of a repetition, but the one that frees a written slot,
which was FINISHED. -/
theorem progressNeverDecreases : Obligations.ProgressNeverDecreases := by
  intro c s t i taken state kept
  rcases exec_movesOn c s t taken with follows | rfl | ⟨levels, resetLine, rfl⟩
  · have other : s.writes ≠ some i := fun writes => by
      rw [State.finished_of_writes writes] at state
      simp at state
    refine (follows.slots.goesOn other ?_).2
    exact state.imp_right (Or.imp_right (Or.imp_right .inl))
  · exact absurd (s.sched.softReset_cleared.1 i) kept
  · exact absurd ((s.powerOn_cleared levels resetLine).1 i) kept

end Sys2Proof.Machine
end

section
/-! The machine as a whole: a step, the completion of every command, and the queue that waits (logs 1, 3, 19). -/

namespace Sys2Proof.Machine

/-- Settles O1: the two cases of `step`. -/
theorem stepTakesFront : Obligations.StepTakesFront := by
  refine ⟨fun s c rest front => ?_, fun s empty => ?_⟩
  · rw [step, front]
  · rw [step, empty]

/-! ### No command touches the commands that wait -/

theorem State.pending_takeCommand (s : State) {act : Word → State → State}
    (kept : ∀ (a : Word) (t : State), (act a t).pending = t.pending) : (s.takeCommand act).pending = s.pending := by
  obtain ⟨_, lost⟩ | ⟨_, accepted⟩ := s.takeCommand_cases act
  · rw [lost]
  · rw [accepted, kept]

theorem State.pending_pickWant {s t : State} {w : Want} (pick : s.pickWant = some (t, w)) : t.pending = s.pending := by
  unfold State.pickWant at pick
  split at pick
  · split at pick <;> cases pick; rfl
  · split at pick
    · cases pick; rfl
    · obtain head | ⟨-, opened⟩ := Option.or_eq_some_iff.mp pick
      · unfold State.takeQueueHead at head
        split at head
        · cases head
        · obtain ⟨e, -, taken⟩ := Option.map_eq_some_iff.mp head
          cases taken; rfl
      · unfold State.openWant at opened
        split at opened
        · cases opened
        · split at opened
          · split at opened <;> cases opened; rfl
          · split at opened <;> cases opened; rfl

theorem State.pending_roundEntry? {s t : State} {w : Want} (entry : s.roundEntry? = some (t, w)) :
    t.pending = s.pending := by
  unfold State.roundEntry? at entry
  split at entry
  · exact State.pending_pickWant entry
  · cases entry

@[simp] theorem State.pending_answeringMeetsRound (s : State) : s.answeringMeetsRound.pending = s.pending := by
  unfold State.answeringMeetsRound
  dsimp only
  (repeat' split) <;> simp

theorem State.pending_receive (s : State) (h : FrameHead) (body : Option Body) : (s.receive h body).pending = s.pending := by
  cases body <;> simp [State.receive]

/-- A command that goes on leaves the queue as it is. -/
def State.QueueKept (s : State) (r : Result) : Prop := ∀ t, r = .next t → t.pending = s.pending

theorem State.QueueKept.next {s t : State} (kept : t.pending = s.pending) : s.QueueKept (.next t) := by
  rintro u ⟨⟩
  exact kept

theorem State.QueueKept.ite {s t u : State} {c : Prop} [Decidable c] (kept : t.pending = s.pending)
    (kept' : u.pending = s.pending) : s.QueueKept (.next (if c then t else u)) := by
  refine .next ?_
  split
  · exact kept
  · exact kept'

theorem exec_queueKept (c : Instr) (s : State) : s.QueueKept (exec c s) := by
  cases c with
  | join | leave | peerReset | post | cancel | stopStanding | hold | release | takeNote | busReset | ringRestart =>
    exact .next (s.pending_takeCommand (by simp))
  | softReset | undefinedCommandCode | ringConsumerWrite | eventWrite | eventEnableWrite | powerOn => exact .next (by simp)
  | registerWrite offset value =>
    change s.QueueKept (execRegisterWrite offset value s)
    unfold execRegisterWrite
    split
    case h_12 => rintro t ⟨⟩
    all_goals exact .next (by simp)
  | triggerEdge | resetLineAsserted | resetLineFalls | holdLineDriven => exact .ite (by simp) (by simp)
  | releaseGapExpires | restGap | turnGapExpires | roundLost | roundNoWinner | roundEnds => exact .ite (by simp) (by simp)
  | resetPulseEnds | triggerLineFalls | roundWon => exact .next (by simp)
  | contend =>
    refine .next ?_
    unfold State.contend
    split
    case h_1 entry => simpa using State.pending_roundEntry? entry
    case h_2 => rfl
  | roundBegins =>
    refine .next ?_
    unfold State.roundBegins
    split
    · split
      case h_1 entry => simpa using State.pending_roundEntry? entry
      case h_2 => simp
    · rfl
  | frameBadCrc bytes =>
    refine .next ?_
    split <;> simp
  | connectReceived | acceptReceived | refuseReceived | dataReceived | ackReceived | nakReceived | finishReceived
  | disconnectReceived | endReceived | resumeReceived | withdrawReceived | abortReceived | rollcallReceived
  | presentReceived => exact .next (s.pending_receive _ _)
  | frameSentGood | collisionDetected =>
    refine .next ?_
    split <;> simp
  | sendData | sendAck | sendAbort | holdLineReleased => exact .next (by simp)
  | answerTimeout | closeTimeout | resumeDeadlineExpires | parkTimerExpires | rollcallTimerExpires =>
    exact .ite (by simp) (by simp)
  | ackTimeout | silenceTimeout => exact .ite (by split <;> simp) rfl
  | localTransactionEnds | localBusError | writerTakesRecord | drainComplete => exact .next (by simp)
  | descriptorLoadEnds | configLoadEnds =>
    refine .next ?_
    split <;> simp
  | payloadReadEnds | payloadStoreEnds | segmentEntryFetched | completionRecordWritten | copyOutEnds =>
    exact .ite (by simp) rfl

/-- Settles O2: every command but a register write is a `.next`; the register write is one at each register's offset. -/
theorem everyCommandCompletes : Obligations.EveryCommandCompletes := by
  refine ⟨fun c s => ?_, fun c s => exec_queueKept c s⟩
  cases c with
  | registerWrite offset value =>
    change (∃ t, execRegisterWrite offset value s = .next t) ∨ ∃ offset' value', _ ∧ _ ∧
      execRegisterWrite offset value s = .fault .noSuchRegister
    by_cases register : offset ∈ registerOffsets
    · left
      simp only [registerOffsets, List.mem_cons, List.not_mem_nil, or_false] at register
      rcases register with rfl | rfl | rfl | rfl | rfl | rfl | rfl | rfl | rfl | rfl | rfl <;> exact ⟨_, rfl⟩
    · right
      refine ⟨offset, value, rfl, register, ?_⟩
      simp only [registerOffsets, List.mem_cons, List.not_mem_nil, or_false, not_or] at register
      unfold execRegisterWrite
      split <;> simp_all
  | _ => exact .inl ⟨_, rfl⟩

/-! ### Power-on and reset -/

theorem State.window_powerOn (s : State) (levels : BitVec 4) (resetLine : Bool) (w : WindowId) :
    (s.powerOn levels resetLine).window w = Window.disabled := Vector.getElem_replicate _

theorem State.peer_powerOn (s : State) (levels : BitVec 4) (resetLine : Bool) (p : StationId) :
    (s.powerOn levels resetLine).peer p = Peer.unknown := Vector.getElem_replicate _

/-- Settles O3: the fields of `State.atPowerOn`. -/
theorem powerOnAndReset : Obligations.PowerOnAndReset := by
  refine ⟨fun levels resetLine s => ⟨s.powerOn levels resetLine, rfl, ?_⟩, rfl, rfl, rfl, rfl, rfl, rfl, rfl⟩
  have peers := s.peer_powerOn levels resetLine
  have slots := s.slot_powerOn levels resetLine
  have windows := s.window_powerOn levels resetLine
  refine ⟨rfl, rfl, rfl, rfl, rfl, rfl, peers, rfl, rfl, rfl, rfl, rfl, rfl, rfl, rfl, rfl, rfl, rfl, rfl, fun i => ?_, rfl,
    rfl, rfl, rfl, fun w => ?_, rfl, rfl, rfl, rfl, rfl, rfl, rfl, rfl, rfl, rfl, rfl, rfl, rfl, rfl, rfl, rfl, rfl, rfl,
    rfl, (by decide : decide ((0#11 &&& 0#11) ≠ 0) = false), rfl⟩
  · simp [slots i, Slot.blank]
  · simp [windows w, Window.disabled]

/-- Settles O4: the tables are empty and the Engine is IDLE. -/
theorem invariantsAtReset : Obligations.InvariantsAtReset := by
  have cleared : State.reset.sched.Cleared := State.reset.powerOn_cleared 0 false
  have slots (i : SlotId) : State.reset.slot i = Slot.blank 0 := State.reset.slot_powerOn 0 false i
  have work : ExchangeWork State.reset :=
    { entered := nofun
      idle := fun _ => ⟨rfl, rfl, nofun, nofun, nofun⟩
      within := ⟨nofun, nofun, fun ne => absurd rfl ne⟩
      gone := nofun
      calls := nofun
      target := nofun
      initiator := fun _ => ⟨nofun, by simp [State.reset, State.atPowerOn, Engine.idle]⟩ }
  refine ⟨cleared.lists, cleared.oneSelected, Service.empty_table, Service.empty_holds, Service.empty_parks, Nat.zero_le _,
    Nat.zero_le _, (by decide : Memory.wf [] = true), rfl, work, fun i => ?_, nofun⟩
  rw [slots i]
  exact le_rfl

end Sys2Proof.Machine
end

section
/-! The command port, the loads, the ring and the registers (files 10 and 11). -/

namespace Sys2Proof.Machine

/-! ### A command that the port takes, and one that it does not (R166) -/

/-- The station as a command that the port took finds it. -/
def State.accepted (s : State) : State := { s with host := { s.host with lost := false } }

@[simp] theorem State.accepted_frame (s : State) :
    s.accepted.station = s.station ∧ s.accepted.bus = s.bus ∧ s.accepted.arb = s.arb ∧ s.accepted.engine = s.engine ∧
      s.accepted.sched = s.sched ∧ s.accepted.service = s.service ∧ s.accepted.notes = s.notes ∧
      s.accepted.mover = s.mover ∧ s.accepted.writer = s.writer ∧ s.accepted.port = s.port :=
  ⟨rfl, rfl, rfl, rfl, rfl, rfl, rfl, rfl, rfl, rfl⟩

@[simp] theorem State.slot_accepted (s : State) (i : SlotId) : s.accepted.slot i = s.slot i := rfl

@[simp] theorem State.window_accepted (s : State) (w : WindowId) : s.accepted.window w = s.window w := rfl

@[simp] theorem State.entry?_accepted (s : State) (k : Key) : s.accepted.entry? k = s.entry? k := rfl

@[simp] theorem State.settings_accepted (s : State) : s.accepted.settings = s.settings := rfl

theorem State.takeCommand_ready {s : State} (act : Word → State → State) (ready : s.host.busy = false) :
    s.takeCommand act = act s.host.argument s.accepted := by
  rw [State.takeCommand, ready]
  rfl

theorem State.takeCommand_busy {s : State} (act : Word → State → State) (busy : s.host.busy = true) :
    s.takeCommand act = { s with host := { s.host with lost := true } } := by
  rw [State.takeCommand, if_pos busy]

/-- An accepted command that only answers. -/
theorem State.finish_accepted (s : State) (command : Byte) (code : ResultCode) (detail : Nat := 0) :
    s.accepted.finish command code detail = { s with host := s.host.answered command code detail } := rfl

theorem next_congr {s t : State} (same : s = t) : (.next s : Result) = .next t := congrArg _ same

/-- Settles O14: each command goes through `takeCommand`, and a code that names none answers BAD_ARGUMENT. -/
theorem commandPort : Obligations.CommandPort := by
  refine ⟨fun s busy => ⟨fun c mem => ?_, fun code other => ?_⟩, fun s code ready unnamed => ?_⟩
  · simp only [List.mem_cons, List.not_mem_nil, or_false] at mem
    rcases mem with rfl | rfl | rfl | rfl | rfl | rfl | rfl | rfl | rfl | rfl | rfl <;>
      exact next_congr (State.takeCommand_busy _ busy)
  · refine next_congr ?_
    unfold State.commandWrite
    split
    case h_3 three => exact absurd (BitVec.eq_of_toNat_eq three) other
    all_goals exact State.takeCommand_busy _ busy
  · refine next_congr ?_
    unfold State.commandWrite
    split
    case h_13 => exact State.takeCommand_ready _ ready
    all_goals
      next named =>
      rcases unnamed with rfl | large
      · cases named
      · omega

/-! ### JOIN and POST begin a load (R144) -/

/-- The first read of a load. -/
theorem State.loaderAsk_first {s : State} {kind : LoadKind} {a : Nat} (load : s.loader = some ⟨kind, a, [], false⟩)
    (inside : a < Config.localTop) :
    s.loaderAsk = { s with port := s.port.asked .loader (.read a (min kind.size (64 - a % 64))) } := by
  have ask : s.loaderAsk = if a + 0 ≥ Config.localTop then s.loaderFault
      else s.request .loader (.read (a + 0) (chunk (a + 0) (kind.size - 0))) := by
    rw [State.loaderAsk, load]
    rfl
  rw [ask, if_neg (not_le.mpr (by exact inside)), State.request_eq]
  rfl

theorem toNat_lt_localTop (a : Word) : a.toNat < Config.localTop := a.isLt

/-- The lowest-numbered slot that passes a test is the one that is found. -/
theorem find?_slotIds {p : SlotId → Bool} {i : SlotId} (passes : p i = true) (lowest : ∀ j < i, p j = false) :
    slotIds.find? p = some i := by
  obtain ⟨k, found⟩ := Option.isSome_iff_exists.mp (List.find?_isSome.mpr ⟨i, mem_slotIds i, passes⟩)
  obtain ⟨pk, before, after, split, none⟩ := List.find?_eq_some_iff_append.mp found
  have rising : (before ++ k :: after).Pairwise (· < ·) := split ▸ (by decide : slotIds.Pairwise (· < ·))
  have later : ∀ j ∈ after, k < j := (List.pairwise_cons.mp (List.pairwise_append.mp rising).2.1).1
  have mem : i ∈ before ++ k :: after := split ▸ mem_slotIds i
  rcases List.mem_append.mp mem with early | now
  · simpa [passes] using none i early
  · rcases List.mem_cons.mp now with rfl | late
    · exact found
    · simp [lowest k (later i late)] at pk

/-- Settles O15: JOIN and POST by their conditions; what starts is the first read of the load. -/
theorem loadsBegin : Obligations.LoadsBegin := by
  refine ⟨fun s ready => ⟨fun may => ?_, fun mayNot => ?_⟩, fun s ready => ⟨fun offline => ?_, fun online full => ?_,
    fun online i free lowest => ?_⟩⟩
  all_goals refine next_congr ((State.takeCommand_ready _ ready).trans ?_)
  · refine (if_pos (by exact may)).trans ?_
    exact (State.loaderAsk_first (kind := .config) (by rfl) (toNat_lt_localTop _)).trans rfl
  · exact if_neg mayNot
  · exact if_pos offline
  · have noSlot : s.accepted.freeSlot? = none := List.find?_eq_none.mpr fun i _ => by simp [full i]
    refine (if_neg (by simpa using online)).trans ?_
    rw [noSlot]
    rfl
  · have found : s.accepted.freeSlot? = some i := find?_slotIds (decide_eq_true free) fun j lt => decide_eq_false (lowest j lt)
    refine (if_neg (by simpa using online)).trans ?_
    rw [found]
    exact (State.loaderAsk_first (kind := .descriptor i) (by rfl) (toNat_lt_localTop _)).trans rfl

end Sys2Proof.Machine
end

section
/-! SOFT_RESET, CANCEL and STOP_STANDING (files 01 and 08). -/

namespace Sys2Proof.Machine

/-- Settles O17: the fields of `State.softReset`; each slot keeps its generation. -/
theorem softResetCommand : Obligations.SoftResetCommand := by
  intro s
  have windows (w : WindowId) : s.softReset.window w = Window.disabled := Vector.getElem_replicate _
  refine ⟨s.softReset, rfl, rfl, rfl, rfl, rfl, rfl, s.sched.slot_softReset, rfl, rfl, rfl, rfl, fun w => ?_, rfl, rfl, rfl,
    rfl, rfl, rfl, rfl, rfl, rfl, rfl, rfl⟩
  simp [windows w, Window.disabled]

/-! ### A tag in the argument register (R6) -/

theorem argTag?_of_lt {a : Word} {i : SlotId} (low : a.toNat % 256 = i.val) : argTag? a = some ⟨i, argGeneration a⟩ := by
  have inside : argLow a < 16 := by unfold argLow; omega
  rw [argTag?, dif_pos inside]
  simp only [argLow, low, Fin.eta]

theorem argTag?_of_gt {a : Word} (high : 15 < a.toNat % 256) : argTag? a = none :=
  dif_neg (not_lt.mpr high)

theorem argGeneration_eq_iff (a : Word) (g : Generation) : argGeneration a = g ↔ a.toNat / 256 % 16 = g.val := Fin.ext_iff

/-- The tag names a live exchange by its current generation, or a standing one by its posting generation (R6). -/
theorem State.matchTag_iff (s : State) (i : SlotId) (a : Word) :
    s.matchTag ⟨i, argGeneration a⟩ = true ↔ (s.slot i).state.live = true ∧
      (a.toNat / 256 % 16 = (s.slot i).gen.val ∨
        ∃ st, (s.slot i).standing = some st ∧ a.toNat / 256 % 16 = st.postingGen.val) := by
  simp only [State.matchTag, Bool.and_eq_true, Bool.or_eq_true, decide_eq_true_eq, argGeneration_eq_iff]
  cases (s.slot i).standing <;> simp

/-! ### The drain test where a slot or an entry is left (R161) -/

theorem State.allFree_eq_false {s : State} {i : SlotId} (busy : (s.slot i).state ≠ .free) : s.allFree = false :=
  List.all_eq_false.mpr ⟨i, mem_slotIds i, by simpa using busy⟩

theorem State.drainTest_of_not_drained {s : State} (left : s.drained = false) : s.drainTest = s := by
  rw [State.drainTest, left]
  rfl

/-- A slot that is not FREE keeps the station from being drained. -/
theorem State.drainTest_of_slot {s : State} {i : SlotId} (busy : (s.slot i).state ≠ .free) : s.drainTest = s :=
  State.drainTest_of_not_drained (by simp [State.drained, State.allFree_eq_false busy])

/-! ### Slots that end, and wants that are gone (R22, R69, R77) -/

/-- A live slot that does not end DONE has nothing more to come. -/
theorem State.finishSlot_of_live {s : State} {i : SlotId} {o : ExchangeOutcome} (live : (s.slot i).state.live = true)
    (undone : o ≠ .done) : s.finishSlot i o = { s with sched := s.sched.ended i o } := by
  rw [s.finishSlot_eq i o live, Slot.more_eq, decide_eq_false undone, Bool.false_and]

theorem State.slot_ended (s : State) (i : SlotId) (o : ExchangeOutcome) (more : Bool) :
    ({ s with sched := s.sched.ended i o more } : State).slot i = (s.slot i).ended o more := by
  change (s.sched.ended i o more).slot i = _
  rw [Scheduler.slot_ended, if_pos rfl]
  rfl

/-- The Arbitration Unit when want `w` is gone (R69). -/
def Arbitration.lose (a : Arbitration) (w : Want) : Arbitration :=
  { a with entered := a.entered.map fun e => if e.want = w then { e with gone := true } else e }

theorem State.markGone_eq (s : State) (w : Want) : s.markGone w = { s with arb := s.arb.lose w } := by
  unfold State.markGone Arbitration.lose
  split
  · next e entered =>
    rw [entered, Option.map_some]
    split
    · rfl
    · rw [← entered]
  · next none => rw [none, Option.map_none, ← none]

/-- The Engine calls for slot `i`. -/
def State.calls (s : State) (i : SlotId) : Prop :=
  s.engine.phase = .calling ∧ s.engine.purpose = .connect ∧ s.engine.tag.slot = i

theorem State.slotWantGone_of_not_calls {s : State} {i : SlotId} (other : ¬ s.calls i) :
    s.slotWantGone i = { s with arb := s.arb.lose (.connect i) } := by
  rw [State.slotWantGone, State.markGone_eq, if_neg (by exact other)]

theorem State.slotWantGone_of_driving {s : State} {i : SlotId} (calls : s.calls i) (driving : s.bus.driving ≠ none) :
    s.slotWantGone i = { s with
      arb := s.arb.lose (.connect i)
      engine := { s.engine with wantGone := true, answerTimer := none, closeTimer := none } } := by
  rw [State.slotWantGone, State.markGone_eq, if_pos (by exact calls)]
  exact if_pos (Option.isSome_iff_ne_none.mpr driving)

theorem State.slotWantGone_of_quiet {s : State} {i : SlotId} (calls : s.calls i) (quiet : s.bus.driving = none) :
    s.slotWantGone i = { s.offConnection with arb := s.offConnection.arb.lose (.connect i) } := by
  rw [State.slotWantGone, State.markGone_eq, if_pos (by exact calls)]
  refine (if_neg ?_).trans (State.leaveConnection_eq _)
  change ¬ s.bus.driving.isSome = true
  simp [quiet]

@[simp] theorem State.slot_slotWantGone (s : State) (i k : SlotId) : (s.slotWantGone i).slot k = s.slot k :=
  State.slot_of_sched (by simp) k

/-! ### CANCEL (R18) -/

theorem SlotState.live_iff (x : SlotState) : x.live = true ↔ ¬ (x = .free ∨ x = .loading ∨ x = .finished) := by
  cases x <;> simp [SlotState.live]

theorem State.cancelSlot_of_waiting {s : State} {i : SlotId}
    (waits : (s.slot i).state = .queued ∨ (s.slot i).state = .disconnected ∨ (s.slot i).state = .armed) :
    s.cancelSlot i = { s with sched := s.sched.ended i .cancelled } := by
  have live : (s.slot i).state.live = true := by rcases waits with h | h | h <;> rw [h] <;> rfl
  rw [← State.finishSlot_of_live live (by decide)]
  rcases waits with h | h | h <;> simp only [State.cancelSlot, h]

theorem State.cancelSlot_of_callOut {s : State} {i : SlotId} (state : (s.slot i).state = .selected)
    (out : (s.slot i).callOut = true) : s.cancelSlot i = s.setSlot i (s.slot i).requestCancel := by
  simp only [State.cancelSlot, state, out, if_true]

theorem State.cancelSlot_of_selected {s u : State} {i : SlotId} (state : (s.slot i).state = .selected)
    (quiet : (s.slot i).callOut = false) (gone : s.slotWantGone i = u) :
    s.cancelSlot i = { u with sched := s.sched.ended i .cancelled } := by
  subst gone
  have sched : (s.slotWantGone i).sched = s.sched := by simp
  simp only [State.cancelSlot, state, quiet, Bool.false_eq_true, if_false]
  rw [State.finishSlot_of_live (by rw [State.slot_slotWantGone, state]; rfl) (by decide), sched]

theorem State.cancelSlot_of_active {s : State} {i : SlotId} (state : (s.slot i).state = .active) :
    s.cancelSlot i = s.setSlot i (s.slot i).requestCancel := by
  simp only [State.cancelSlot, state]

/-- CANCEL of a slot whose tag matches, when no payload of its own is being read. -/
theorem State.doCancel_of_match {s u : State} {a : Word} {i : SlotId} (tag : argTag? a = some ⟨i, argGeneration a⟩)
    (named : s.matchTag ⟨i, argGeneration a⟩ = true) (other : (s.slot i).state ≠ .active)
    (cancelled : s.cancelSlot i = u) (left : (u.slot i).state ≠ .free) :
    State.doCancel a s = u.finish codeCancel .ok := by
  simp only [State.doCancel, tag, named, if_true, other, decide_false, Bool.false_and, Bool.false_eq_true, if_false,
    cancelled, State.drainTest_of_slot left]

/-- A slot that ended is not FREE. -/
theorem Scheduler.state_ended (c : Scheduler) (i : SlotId) (o : ExchangeOutcome) :
    ((c.ended i o).slot i).state = .finished := by
  rw [Scheduler.slot_ended, if_pos rfl]
  rfl

/-- The mover's buffer when a stop reaches the read of a new payload (R145). -/
theorem State.stopRead_eq (s : State) : s.stopRead = { s with mover := { s.mover with
    buffer := s.mover.buffer.map fun b =>
      { b with discard := b.discard || (s.engine.resend?.isNone && b.bytes.length < b.len) } } } := by
  unfold State.stopRead
  split
  · next b buffer =>
    rw [buffer, Option.map_some]
    split
    · next reads => simp [reads]
    · next still =>
      have same : (s.engine.resend?.isNone && decide (b.bytes.length < b.len)) = false :=
        Bool.eq_false_iff.mpr fun reads => still (by simpa using reads)
      rw [same, Bool.or_false, ← buffer]
  · next none => rw [none, Option.map_none, ← none]

/-- CANCEL of an ACTIVE slot: a payload that this station is reading for it is thrown away. -/
theorem State.doCancel_of_active {s : State} {a : Word} {i : SlotId} (tag : argTag? a = some ⟨i, argGeneration a⟩)
    (named : s.matchTag ⟨i, argGeneration a⟩ = true) (state : (s.slot i).state = .active) :
    State.doCancel a s = ({ s with
      sched := s.sched.put i (s.slot i).requestCancel
      mover := { s.mover with buffer := s.mover.buffer.map fun b => { b with
        discard := b.discard || (s.engine.role = .initiator && s.engine.resend?.isNone && b.bytes.length < b.len) } } } :
      State).finish codeCancel .ok := by
  have left (m : Mover) : ({ s.setSlot i (s.slot i).requestCancel with mover := m } : State).drainTest =
      { s.setSlot i (s.slot i).requestCancel with mover := m } :=
    State.drainTest_of_slot (i := i) (by
      change ((s.setSlot i (s.slot i).requestCancel).slot i).state ≠ .free
      rw [State.slot_setSlot_self]
      change (s.slot i).state ≠ .free
      simp [state])
  simp only [State.doCancel, tag, named, if_true, state, decide_true, Bool.true_and, State.cancelSlot_of_active state]
  by_cases role : s.engine.role = .initiator
  · simp only [role, decide_true, if_true, State.stopRead_eq, Bool.true_and]
    refine congrArg (fun t => State.finish t codeCancel .ok) ((left _).trans ?_)
    rfl
  · simp only [role, decide_false, Bool.false_eq_true, if_false, Bool.false_and, Bool.or_false]
    refine congrArg (fun t => State.finish t codeCancel .ok) ((left _).trans ?_)
    have same : (s.mover.buffer.map fun b => { b with discard := b.discard }) = s.mover.buffer := Option.map_id_fun' ▸ rfl
    rw [same]
    rfl

/-- Settles O18: CANCEL by the state of the slot. -/
theorem cancelCommand : Obligations.CancelCommand := by
  intro s ready
  refine ⟨fun high => ?_, fun i low => ?_⟩
  · refine next_congr ((State.takeCommand_ready _ ready).trans ?_)
    rw [State.doCancel, argTag?_of_gt high, State.finish_accepted]
    rfl
  have tag := argTag?_of_lt low
  have matches_iff := s.accepted.matchTag_iff i s.host.argument
  have takes {u : State} (named) (live : (s.accepted.slot i).state.live = true) (other : (s.accepted.slot i).state ≠ .active)
      (cancelled : s.accepted.cancelSlot i = u) (left : (u.slot i).state ≠ .free) :=
    State.doCancel_of_match tag (matches_iff.mpr ⟨live, named⟩) other cancelled left
  have ended : ((s.sched.ended i .cancelled).slot i).state ≠ .free := by rw [Scheduler.state_ended]; decide
  refine ⟨fun unnamed => ?_, fun named state => ?_, fun named state out => ?_, fun named state quiet =>
    ⟨fun other => ?_, fun calls driving => ?_, fun calls idle => ?_⟩, fun named state => ?_⟩
  all_goals refine next_congr ((State.takeCommand_ready _ ready).trans ?_)
  · have unmatched : ¬ s.accepted.matchTag ⟨i, argGeneration s.host.argument⟩ = true := fun found => by
      obtain ⟨live, named⟩ := matches_iff.mp found
      exact unnamed.elim (fun h => h named) ((SlotState.live_iff _).mp live)
    simp only [State.doCancel, tag, unmatched]
    rfl
  · have live : (s.accepted.slot i).state.live = true :=
      (SlotState.live_iff _).mpr (by rcases state with h | h | h <;> simp [h])
    exact (takes named live (by rcases state with h | h | h <;> simp [h]) (State.cancelSlot_of_waiting state) ended).trans rfl
  · have live : (s.accepted.slot i).state.live = true := (SlotState.live_iff _).mpr (by simp [state])
    refine (takes named live (by simp [state]) (State.cancelSlot_of_callOut state out) ?_).trans rfl
    rw [State.slot_setSlot_self]
    change (s.slot i).state ≠ .free
    simp [state]
  · have live : (s.accepted.slot i).state.live = true := (SlotState.live_iff _).mpr (by simp [state])
    refine (takes named live (by simp [state]) (State.cancelSlot_of_selected state quiet
      (State.slotWantGone_of_not_calls other)) ended).trans rfl
  · have live : (s.accepted.slot i).state.live = true := (SlotState.live_iff _).mpr (by simp [state])
    refine (takes named live (by simp [state]) (State.cancelSlot_of_selected state quiet
      (State.slotWantGone_of_driving calls driving)) ended).trans rfl
  · have live : (s.accepted.slot i).state.live = true := (SlotState.live_iff _).mpr (by simp [state])
    refine (takes named live (by simp [state]) (State.cancelSlot_of_selected state quiet
      (State.slotWantGone_of_quiet calls idle)) ended).trans rfl
  · have live : (s.accepted.slot i).state.live = true := (SlotState.live_iff _).mpr (by simp [state])
    exact (State.doCancel_of_active tag (matches_iff.mpr ⟨live, named⟩) state).trans rfl

/-! ### STOP_STANDING (R137) -/

theorem State.doStopStanding_of_match {s : State} {a : Word} {i : SlotId} {st : Standing}
    (tag : argTag? a = some ⟨i, argGeneration a⟩) (standing : (s.slot i).standing = some st)
    (named : s.matchTag ⟨i, argGeneration a⟩ = true) :
    State.doStopStanding a s = (s.stopSlot i st).finish codeStopStanding .ok := by
  simp only [State.doStopStanding, tag, standing, named, if_true]

theorem State.doStopStanding_unknown {s : State} {a : Word} {i : SlotId}
    (tag : argTag? a = some ⟨i, argGeneration a⟩)
    (unnamed : (s.slot i).standing = none ∨ s.matchTag ⟨i, argGeneration a⟩ ≠ true) :
    State.doStopStanding a s = s.finish codeStopStanding .unknownTag := by
  simp only [State.doStopStanding, tag]
  rcases unnamed with none | unmatched
  · simp only [none]
  · cases (s.slot i).standing
    · rfl
    · exact if_neg unmatched

/-- Settles O19: STOP_STANDING by the state of the slot. -/
theorem stopStandingCommand : Obligations.StopStandingCommand := by
  intro s ready
  refine ⟨fun high => ?_, fun i low => ?_⟩
  · refine next_congr ((State.takeCommand_ready _ ready).trans ?_)
    rw [State.doStopStanding, argTag?_of_gt high]
    rfl
  have tag := argTag?_of_lt low
  have matches_iff := s.accepted.matchTag_iff i s.host.argument
  refine ⟨fun unnamed => ?_, fun st standing => ⟨fun other otherPosting => ?_, fun named state => ?_, fun named state => ?_⟩⟩
  all_goals refine next_congr ((State.takeCommand_ready _ ready).trans ?_)
  · refine (State.doStopStanding_unknown tag ?_).trans rfl
    exact unnamed.imp_right fun dead found => (SlotState.live_iff _).mp (matches_iff.mp found).1 dead
  · refine (State.doStopStanding_unknown tag (.inr fun found => ?_)).trans rfl
    rcases (matches_iff.mp found).2 with h | ⟨st', standing', h⟩
    · exact other h
    · exact otherPosting (by rw [h, Option.some.inj (standing'.symm.trans standing)])
  · have live : (s.accepted.slot i).state.live = true := (SlotState.live_iff _).mpr (by simp [state])
    have stops : s.accepted.stopSlot i st = { s.accepted with sched := s.sched.ended i .cancelled } := by
      simp only [State.stopSlot, State.slot_accepted, state]
      exact State.finishSlot_of_live live (by decide)
    refine (State.doStopStanding_of_match (s := s.accepted) tag standing
      (matches_iff.mpr ⟨live, named.imp_right fun h => ⟨st, standing, h⟩⟩)).trans ?_
    rw [stops]
    rfl
  · have live : (s.accepted.slot i).state.live = true :=
      (SlotState.live_iff _).mpr (by rcases state with h | h | h | h <;> simp [h])
    have stops : s.accepted.stopSlot i st =
        s.accepted.setSlot i { s.slot i with standing := some { st with stopRequested := true } } := by
      rcases state with h | h | h | h <;> (simp only [State.stopSlot, State.slot_accepted, h])
    refine (State.doStopStanding_of_match (s := s.accepted) tag standing
      (matches_iff.mpr ⟨live, named.imp_right fun h => ⟨st, standing, h⟩⟩)).trans ?_
    rw [stops]
    rfl

end Sys2Proof.Machine
end

section
/-! BUS_RESET, PEER_RESET, RING_RESTART, and the registers (files 03, 10 and 11). -/

namespace Sys2Proof.Machine

theorem StationState.configured_iff (x : StationState) :
    x.configured = true ↔ x = .joining ∨ x = .online ∨ x = .leaving := by
  simp [StationState.configured, or_assoc]

theorem argStation?_of_lt {a : Word} {p : StationId} (low : p.val = a.toNat % 256) : argStation? a = some p := by
  have inside : argLow a < 16 := by unfold argLow; omega
  rw [argStation?, dif_pos inside]
  simp only [argLow, ← low, Fin.eta]

theorem argStation?_of_gt {a : Word} (high : 15 < a.toNat % 256) : argStation? a = none :=
  dif_neg (not_lt.mpr high)

/-- Settles O23: BUS_RESET and PEER_RESET by the station's state and the argument. -/
theorem busAndPeerReset : Obligations.BusAndPeerReset := by
  refine ⟨fun s ready => ⟨fun taken => ?_, fun off => ?_⟩, fun s ready => ⟨fun off => ?_, fun taken bad => ?_,
    fun taken p named other => ?_⟩⟩
  all_goals refine next_congr ((State.takeCommand_ready _ ready).trans ?_)
  · exact (if_pos ((StationState.configured_iff _).mpr taken)).trans rfl
  · refine (if_neg fun on => ?_).trans rfl
    rcases off with h | h <;> rcases (StationState.configured_iff _).mp on with g | g | g <;> cases h.symm.trans g
  · exact (if_neg fun on => off ((StationState.configured_iff _).mp on)).trans rfl
  · refine (if_pos ((StationState.configured_iff _).mpr taken)).trans ?_
    rcases bad with high | own
    · rw [argStation?_of_gt high]
      rfl
    · rw [argStation?_of_lt (p := s.ownId) own.symm]
      exact if_pos rfl
  · refine (if_pos ((StationState.configured_iff _).mpr taken)).trans ?_
    rw [argStation?_of_lt named]
    exact (if_neg other).trans rfl

/-! ### RING_RESTART (R173) -/

/-- The writer's next write, inside the local space. -/
theorem State.writerAsk_first {s : State} {r : Record} (record : s.writer.record = some r)
    (inside : s.placeAddr + r.done < Config.localTop) :
    s.writerAsk = { s with port := s.port.asked .writer (.write (s.placeAddr + r.done)
      ((r.bytes.drop r.done).take (chunk (s.placeAddr + r.done) (r.bytes.length - r.done)))) } := by
  rw [State.writerAsk, record]
  exact (if_neg (not_le.mpr inside)).trans (State.request_eq ..)

/-- A record that nothing was written of goes to place P from its first byte. -/
theorem State.writerAsk_place {s : State} {r : Record} (record : s.writer.record = some r) (start : r.done = 0)
    (whole : r.bytes.length = 32) (inside : s.settings.ringBase + 32 * s.host.producer < 4294967296) :
    s.writerAsk = { s with port := s.port.asked .writer (.write (s.settings.ringBase + 32 * s.host.producer)
      (r.bytes.take (min 32 (64 - (s.settings.ringBase + 32 * s.host.producer) % 64)))) } := by
  refine (State.writerAsk_first record (by rw [start]; exact inside)).trans ?_
  rw [start, whole]
  rfl

theorem State.doRingRestart_of_suspended {s u : State} (suspended : s.writer.state = .suspended)
    (asks : ({ s with writer := { s.writer with state := .running } } : State).writerAsk = u) :
    s.doRingRestart = u.finish codeRingRestart .ok := by
  rw [State.doRingRestart, if_pos suspended, asks]

theorem State.writerAsk_none {s : State} (none : s.writer.record = none) : s.writerAsk = s := by
  rw [State.writerAsk, none]

/-- Settles O24: RING_RESTART by the state of the writer and its record. -/
theorem ringRestartCommand : Obligations.RingRestartCommand := by
  refine fun s ready => ⟨fun other => ?_, fun suspended r record start whole inside => ?_, fun suspended none => ?_⟩
  all_goals refine next_congr ((State.takeCommand_ready _ ready).trans ?_)
  · exact (if_neg other).trans rfl
  · exact (State.doRingRestart_of_suspended (s := s.accepted) suspended
      (State.writerAsk_place (by exact record) start whole (by exact inside))).trans rfl
  · exact (State.doRingRestart_of_suspended (s := s.accepted) suspended (State.writerAsk_none (by exact none))).trans rfl

/-! ### RING_CONSUMER (R171) -/

theorem State.consumerLegal_iff (s : State) (c : Nat) :
    s.consumerLegal c = true ↔ c < s.settings.ringSize ∧
      (c + s.settings.ringSize - s.host.consumer) % s.settings.ringSize ≤ s.unconsumed := by
  simp [State.consumerLegal]

theorem State.ringSize_of_no_settings {s : State} (none : s.station.settings = none) : s.settings.ringSize = 0 := by
  rw [State.settings, none]
  rfl

/-- Settles O25: RING_CONSUMER by the test of R171. -/
theorem ringConsumerMoves : Obligations.RingConsumerMoves := by
  refine fun s value => ⟨fun below onWay => ?_, fun illegal => ?_, fun none => ?_⟩
  · refine next_congr ((if_pos ((State.consumerLegal_iff _ _).mpr ⟨below, onWay⟩)).trans ?_)
    by_cases stalled : s.writer.state = .stalled ∧
        (s.host.producer + s.settings.ringSize - value.toNat % 1024) % s.settings.ringSize + 1 < s.settings.ringSize
    · rw [if_pos stalled]
      exact if_pos stalled
    · rw [if_neg stalled]
      exact if_neg stalled
  · exact next_congr (if_neg fun legal => illegal ((State.consumerLegal_iff _ _).mp legal))
  · refine next_congr (if_neg fun legal => ?_)
    have below := ((State.consumerLegal_iff _ _).mp legal).1
    rw [State.ringSize_of_no_settings none] at below
    exact Nat.not_lt_zero _ below

/-! ### Event flags (R168) -/

theorem Event.getLsbD_mask (e f : Event) : e.mask.getLsbD f.bit = decide (f = e) := by
  cases e <;> cases f <;> rfl

theorem State.flag_raise (s : State) (e f : Event) : (s.raise e).flag f = (s.flag f || decide (f = e)) := by
  simp only [State.flag, State.raise_host, BitVec.getLsbD_or, Event.getLsbD_mask]

/-- A write to EVENT clears the flags written as 1. -/
theorem State.flag_writeEvent (s : State) (value : Word) (e : Event) :
    (s.writeEvent value).flag e = (s.flag e && !value.getLsbD e.bit) := by
  have inside : e.bit < 11 := by cases e <;> decide
  simp [State.flag, inside]

/-- Settles O26: each flag after a raise and after a clearing write. -/
theorem eventFlags : Obligations.EventFlags := by
  intro s e f value
  refine ⟨s.flag_raise_self e, fun other => ?_, ⟨s.writeEvent value, rfl, rfl, s.flag_writeEvent value e,
    State.flag_raise_self _ e⟩, (s.raise e).writeEvent value, rfl, fun set => ?_, fun clear => ?_⟩
  · rw [State.flag_raise, decide_eq_false other, Bool.or_false]
  · rw [State.flag_writeEvent, set, Bool.not_true, Bool.and_false]
  · rw [State.flag_writeEvent, clear, State.flag_raise_self, Bool.not_false, Bool.and_true]

end Sys2Proof.Machine
end

section
/-! The register window (R165, 12.1). -/

namespace Sys2Proof.Machine

theorem ResultCode.code_le (c : ResultCode) : c.code ≤ 9 := by
  cases c <;> decide

/-- RESULT as a number: code, command and detail side by side. -/
theorem CommandResult.toNat_word (r : CommandResult) :
    r.word.toNat = r.code.code + 256 * r.command.toNat + 65536 * r.detail.toNat := by
  have small := r.code.code_le
  have code : (BitVec.ofNat 8 r.code.code).toNat = r.code.code := by
    rw [BitVec.toNat_ofNat]
    omega
  have command := r.command.isLt
  rw [CommandResult.word, BitVec.toNat_append, BitVec.toNat_append, code, ← Nat.shiftLeft_add_eq_or_of_lt (by omega),
    ← Nat.shiftLeft_add_eq_or_of_lt (by omega), Nat.shiftLeft_eq, Nat.shiftLeft_eq]
  omega

/-- STATUS as a number. -/
theorem State.toNat_status (s : State) :
    s.status.toNat = s.host.busy.toNat + 2 * s.host.lost.toNat + 4 * s.station.state.code + 32 * s.station.cause.code
      + 128 * s.writer.state.code + 4096 * (s.station.settings.elim 0 (·.id.val)) := by
  have busy := s.host.busy.toNat_le
  have lost := s.host.lost.toNat_le
  have state : s.station.state.code ≤ 4 := by cases s.station.state <;> decide
  have cause : s.station.cause.code ≤ 2 := by cases s.station.cause <;> decide
  have writer : s.writer.state.code ≤ 2 := by cases s.writer.state <;> decide
  have id : s.station.settings.elim 0 (·.id.val) ≤ 15 := by
    cases s.station.settings with
    | none => exact Nat.zero_le _
    | some x => exact Nat.le_of_lt_succ x.id.isLt
  rw [State.status, BitVec.toNat_ofNat]
  omega

/-- The fields of STATUS (R165). -/
theorem State.status_fields (s : State) :
    s.status.getLsbD 0 = s.host.busy ∧ s.status.getLsbD 1 = s.host.lost ∧
      s.status.toNat / 4 % 8 = s.station.state.code ∧ s.status.toNat / 32 % 4 = s.station.cause.code ∧
      s.status.toNat / 128 % 4 = s.writer.state.code ∧ s.status.toNat / 512 % 8 = 0 ∧ s.status.toNat / 65536 = 0 ∧
      s.status.toNat / 4096 % 16 = s.station.settings.elim 0 (·.id.val) := by
  have number := s.toNat_status
  have state : s.station.state.code ≤ 4 := by cases s.station.state <;> decide
  have cause : s.station.cause.code ≤ 2 := by cases s.station.cause <;> decide
  have writer : s.writer.state.code ≤ 2 := by cases s.writer.state <;> decide
  have id : s.station.settings.elim 0 (·.id.val) ≤ 15 := by
    cases s.station.settings with
    | none => exact Nat.zero_le _
    | some x => exact Nat.le_of_lt_succ x.id.isLt
  have busy := s.host.busy.toNat_le
  have lost := s.host.lost.toNat_le
  have bit0 : s.status.toNat % 2 = s.host.busy.toNat := by omega
  have bit1 : s.status.toNat / 2 % 2 = s.host.lost.toNat := by omega
  refine ⟨?_, ?_, by omega, by omega, by omega, by omega, by omega, by omega⟩
  · rw [BitVec.getLsbD, Nat.testBit_zero, bit0]
    cases s.host.busy <;> rfl
  · rw [BitVec.getLsbD, Nat.testBit_succ, Nat.testBit_zero, bit1]
    cases s.host.lost <;> rfl

theorem toNat_ofNat_of_lt {n : Nat} (small : n < 4294967296) : (BitVec.ofNat 32 n).toNat = n := by
  rw [BitVec.toNat_ofNat, Nat.mod_eq_of_lt small]

theorem getLsbD_setWidth_event (b : BitVec 11) (i : Nat) : (b.setWidth 32).getLsbD i = b.getLsbD i := by
  rw [BitVec.getLsbD_setWidth]
  by_cases inside : i < 32
  · simp [inside]
  · simp [inside, BitVec.getLsbD_of_ge b i (by omega)]

/-- Settles O28: writes by their offset, and each register's value. -/
theorem registerAccess : Obligations.RegisterAccess := by
  refine ⟨fun s value => ⟨rfl, fun offset mem => ?_, rfl, rfl, rfl, rfl⟩, fun s => ?_⟩
  · simp only [List.mem_cons, List.not_mem_nil, or_false] at mem
    rcases mem with rfl | rfl | rfl | rfl | rfl | rfl <;> rfl
  obtain ⟨busy, lost, state, cause, writer, gap, high, id⟩ := s.status_fields
  refine ⟨rfl, rfl, ⟨_, rfl, CommandResult.toNat_word _⟩, ⟨_, rfl, busy, lost, state, cause, writer, gap, high,
    fun none => by rw [id, none]; rfl, fun x settings => by rw [id, settings]; rfl⟩,
    ⟨_, rfl, getLsbD_setWidth_event _⟩, ⟨_, rfl, getLsbD_setWidth_event _⟩,
    fun producer consumer => ⟨⟨_, rfl, toNat_ofNat_of_lt (by omega)⟩, _, rfl, toNat_ofNat_of_lt (by omega)⟩,
    fun none => ?_, fun x settings base size => ?_, rfl⟩
  · simp only [State.readRegister, none]
    exact ⟨rfl, rfl⟩
  · simp only [State.readRegister, settings]
    exact ⟨⟨_, rfl, toNat_ofNat_of_lt base⟩, _, rfl, toNat_ofNat_of_lt (by show x.ringSize < _; omega)⟩

end Sys2Proof.Machine
end

section
/-! The drain (R161), and the ends of local transactions (file 09). -/

namespace Sys2Proof.Machine

/-! ### The drain -/

theorem State.allFree_iff (s : State) : s.allFree = true ↔ ∀ i, (s.slot i).state = .free := by
  simp [State.allFree, mem_slotIds]

theorem State.drained_iff (s : State) :
    s.drained = true ↔ s.station.state = .leaving ∧ (∀ i, (s.slot i).state = .free) ∧ s.service.entries = [] ∧
      s.engine.phase = .idle := by
  simp [State.drained, State.allFree_iff, and_assoc]

/-- Settles O60: `State.goOffline` with DRAINED, under `drained_iff`. -/
theorem drainComplete : Obligations.DrainComplete := by
  refine fun s => ⟨fun drained => ?_, fun left => ?_, s.drained_iff, rfl⟩
  · exact next_congr ((if_pos (s.drained_iff.mpr drained)).trans rfl)
  · exact next_congr (if_neg fun drained => left (s.drained_iff.mp drained))

/-- What is left over where nothing of it went keeps the station from being drained. -/
theorem State.not_drained_of {s t : State} (left : s.drained = false) (station : t.station.state = s.station.state)
    (slots : ∀ i, (t.slot i).state = .free → (s.slot i).state = .free)
    (entries : t.service.entries = [] → s.service.entries = [])
    (phase : t.engine.phase = .idle → s.engine.phase = .idle) : t.drained = false := by
  rw [Bool.eq_false_iff] at left ⊢
  intro drained
  obtain ⟨leaving, free, empty, idle⟩ := t.drained_iff.mp drained
  exact left (s.drained_iff.mpr ⟨station ▸ leaving, fun i => slots i (free i), entries empty, phase idle⟩)

theorem State.drainTest_eq_of_left {s t u : State} (left : s.drained = false) (same : t = u)
    (station : u.station.state = s.station.state) (slots : ∀ i, (u.slot i).state = .free → (s.slot i).state = .free)
    (entries : u.service.entries = [] → s.service.entries = [])
    (phase : u.engine.phase = .idle → s.engine.phase = .idle) : t.drainTest = u :=
  same ▸ State.drainTest_of_not_drained (same ▸ State.not_drained_of left station slots entries phase)

/-! ### The arbiter (R142) -/

/-- The grant that follows the end of a transaction finds the waiting requests alone. -/
theorem Port.grantNext_of_waiting {p q : Port} (waiting : q.waiting = p.waiting) (orphans : q.orphans = p.orphans) :
    q.grantNext = p.grantNext := by
  obtain ⟨_, w, o⟩ := p
  obtain ⟨_, _, _⟩ := q
  subst waiting orphans
  rfl

/-- What a requester asks while its transaction is settled waits for the grant that follows. -/
theorem Port.grantNext_asked {p : Port} {g : Granted} (current : p.current = some g) (who : Requester) (t : Transaction) :
    (p.settle.asked who t).grantNext = Port.grantNext { p with waiting := p.waiting ++ [(who, t)] } := by
  have busy : p.settle.current ≠ none := by simp [Port.settle, current]
  rw [Port.asked, if_neg busy]
  exact Port.grantNext_of_waiting rfl rfl

theorem Port.grantNext_idle {p : Port} (none : p.waiting = []) : p.grantNext = { p with current := Option.none } := by
  simp [Port.grantNext, none, priorities]

/-- The rank of a requester in the order of priority (R141). -/
def Requester.rank : Requester → Nat
  | .mover => 1 | .walker => 2 | .writer => 3 | .copier => 4 | .loader => 5

/-- The requesters stand in the order of their ranks. -/
theorem mem_priorities (r : Requester) : r ∈ priorities := by
  cases r <;> decide

/-- The waiting request that is granted next: the first one whose requester comes first in a list of requesters. -/
theorem exists_findSome?_waiting {waiting : List (Requester × Transaction)} {order : List Requester}
    (some : ∃ w ∈ waiting, w.1 ∈ order) (rising : order.Pairwise fun a b => a.rank < b.rank) :
    ∃ w ∈ waiting, (order.findSome? fun r => waiting.find? fun w => w.1 = r) = Option.some w ∧
      ∀ v ∈ waiting, v.1 ∈ order → w.1.rank ≤ v.1.rank := by
  induction order with
  | nil =>
    obtain ⟨_, _, mem⟩ := some
    cases mem
  | cons r order ih =>
    rw [List.findSome?_cons]
    obtain ⟨below, rising⟩ := List.pairwise_cons.mp rising
    cases found : waiting.find? fun w => w.1 = r with
    | some w =>
      have named : w.1 = r := by simpa using List.find?_some found
      refine ⟨w, List.mem_of_find?_eq_some found, rfl, fun v _ mem => ?_⟩
      rw [named]
      rcases List.mem_cons.mp mem with same | later
      · exact le_of_eq (same ▸ rfl)
      · exact (below _ later).le
    | none =>
      have absent : ∀ w ∈ waiting, w.1 ≠ r := fun w mem => by simpa using List.find?_eq_none.mp found w mem
      obtain ⟨v, waits, mem⟩ := some
      have later : ∃ w ∈ waiting, w.1 ∈ order := ⟨v, waits, (List.mem_cons.mp mem).resolve_left (absent v waits)⟩
      obtain ⟨w, waits, first, least⟩ := ih later rising
      exact ⟨w, waits, first, fun u waits mem => least u waits ((List.mem_cons.mp mem).resolve_left (absent u waits))⟩

/-- The waiting requester of highest priority is granted. -/
theorem Port.grantNext_waiting {p : Port} (waits : p.waiting ≠ []) :
    ∃ w ∈ p.waiting, p.grantNext = { p with current := some ⟨w.1, w.2, .running⟩, waiting := p.waiting.erase w } ∧
      ∀ v ∈ p.waiting, w.1.rank ≤ v.1.rank := by
  obtain ⟨v, mem⟩ := List.exists_mem_of_ne_nil _ waits
  obtain ⟨w, waits, first, least⟩ := exists_findSome?_waiting ⟨v, mem, mem_priorities v.1⟩ (by decide : priorities.Pairwise fun a b => a.rank < b.rank)
  refine ⟨w, waits, ?_, fun v mem => least v mem (mem_priorities v.1)⟩
  rw [Port.grantNext, first]

/-! ### The end of a transaction (R141, R150) -/

/-- The station while the ended transaction `t` is settled: its bytes are in memory, and it still holds the port. -/
def State.settling (s : State) (t : Transaction) : State := { s.applyTransaction t with port := s.port.settle }

theorem State.transactionEnds_running {s u : State} {who : Requester} {t : Transaction} {data : List Byte}
    (orphans : s.port.orphans = []) (current : s.port.current = some ⟨who, t, .running⟩) (brings : t.brings data = true)
    (goesOn : (s.settling t).requesterGoesOn ⟨who, t, .running⟩ data = u) :
    s.transactionEnds data = u.grant.drainTest := by
  subst goesOn
  simp only [State.transactionEnds, orphans, current, brings, if_true]
  rfl

theorem State.transactionEnds_discarded {s u : State} {who : Requester} {t : Transaction} {data : List Byte}
    (orphans : s.port.orphans = []) (current : s.port.current = some ⟨who, t, .discarded⟩) (brings : t.brings data = true)
    (goesOn : (s.settling t).discardedEnds ⟨who, t, .discarded⟩ = u) : s.transactionEnds data = u.grant.drainTest := by
  subst goesOn
  simp only [State.transactionEnds, orphans, current, brings, if_true]
  rfl

theorem State.transactionFails_running {s u : State} {who : Requester} {t : Transaction}
    (orphans : s.port.orphans = []) (current : s.port.current = some ⟨who, t, .running⟩)
    (faults : ({ s with port := s.port.settle } : State).requesterFaults ⟨who, t, .running⟩ = u) :
    s.transactionFails = u.grant.drainTest := by
  subst faults
  simp only [State.transactionFails, orphans, current]
  rfl

theorem State.transactionFails_discarded {s u : State} {who : Requester} {t : Transaction}
    (orphans : s.port.orphans = []) (current : s.port.current = some ⟨who, t, .discarded⟩)
    (goesOn : ({ s with port := s.port.settle } : State).discardedEnds ⟨who, t, .discarded⟩ = u) :
    s.transactionFails = u.grant.drainTest := by
  subst goesOn
  simp only [State.transactionFails, orphans, current]
  rfl

/-! ### The pieces the mover asks for (R141, R145 to R147) -/

/-- The working cursor at the place of the next bytes (R147). -/
def State.cursorSettled (s : State) : State :=
  { s with mover := { s.mover with working := if s.usesList then s.mover.settled else s.mover.working } }

theorem State.cursorSettled_of_no_list {s : State} (none : s.usesList = false) : s.cursorSettled = s := by
  rw [State.cursorSettled, none]
  rfl

theorem State.cursorSettled_eq (s : State) :
    (if s.usesList then { s with mover := { s.mover with working := s.mover.settled } } else s) = s.cursorSettled := by
  unfold State.cursorSettled
  split <;> rfl

theorem State.askPiece_found {s : State} {p n a room : Nat} {make : Nat → Nat → Transaction}
    (place : s.cursorSettled.placeOf p = .found a room) (inside : a < Config.localTop) :
    s.askPiece p n make =
      { s.cursorSettled with port := s.port.asked .mover (make a (chunk a (min n room))) } := by
  rw [State.askPiece, State.cursorSettled_eq, place]
  exact (if_neg (not_le.mpr inside)).trans (State.request_eq ..)

theorem State.askPiece_beyond {s : State} {p n a room : Nat} {make : Nat → Nat → Transaction}
    (place : s.cursorSettled.placeOf p = .found a room) (beyond : Config.localTop ≤ a) :
    s.askPiece p n make = s.cursorSettled.moverFault .busError := by
  rw [State.askPiece, State.cursorSettled_eq, place]
  exact if_pos beyond

theorem State.askPiece_fetch {s : State} {p n k : Nat} {make : Nat → Nat → Transaction}
    (place : s.cursorSettled.placeOf p = .fetch k) (inside : s.ownSlot.localAddr + 8 * k < Config.localTop) :
    s.askPiece p n make = { s.cursorSettled with
      mover := { s.cursorSettled.mover with fetch := some ⟨k, []⟩ }
      port := s.port.asked .walker
        (.read (s.ownSlot.localAddr + 8 * k) (chunk (s.ownSlot.localAddr + 8 * k) 8)) } := by
  rw [State.askPiece, State.cursorSettled_eq, place]
  exact (if_neg (not_le.mpr inside)).trans (State.request_eq ..)

theorem State.askPiece_fetch_beyond {s : State} {p n k : Nat} {make : Nat → Nat → Transaction}
    (place : s.cursorSettled.placeOf p = .fetch k) (beyond : Config.localTop ≤ s.ownSlot.localAddr + 8 * k) :
    s.askPiece p n make = ({ s.cursorSettled with
      mover := { s.cursorSettled.mover with fetch := some ⟨k, []⟩ } } : State).moverFault .busError := by
  rw [State.askPiece, State.cursorSettled_eq, place]
  exact if_pos (by exact beyond)

theorem State.askPiece_short {s : State} {p n : Nat} {make : Nat → Nat → Transaction}
    (place : s.cursorSettled.placeOf p = .short) : s.askPiece p n make = s.cursorSettled.moverFault .segmentShort := by
  rw [State.askPiece, State.cursorSettled_eq, place]

/-- The mover is free to ask: no fetch, no request of its own or the walker's waiting, none under way. -/
theorem State.moverBusy_eq_false {s : State} (fetch : s.mover.fetch = none)
    (waiting : ∀ w ∈ s.port.waiting, w.1 ≠ .mover ∧ w.1 ≠ .walker)
    (current : ∀ g, s.port.current = some g → g.who.ofConnection = true → g.state = .ended) : s.moverBusy = false := by
  have quiet : s.port.waiting.any (·.1.ofConnection) = false :=
    List.any_eq_false.mpr fun w mem => by simp [Requester.ofConnection, waiting w mem]
  unfold State.moverBusy
  rw [fetch, quiet]
  cases c : s.port.current with
  | none => rfl
  | some g => simpa using current g c

/-- The transaction that is settled does not keep the mover from asking. -/
theorem Port.settle_ended (p : Port) (g : Granted) (current : p.settle.current = some g) : g.state = .ended := by
  obtain ⟨_, _, rfl⟩ := Option.map_eq_some_iff.mp current
  rfl

theorem State.moverAsk_read {s : State} {b : PayloadBuffer} (free : s.moverBusy = false)
    (buffer : s.mover.buffer = some b) (more : b.bytes.length < b.len) :
    s.moverAsk = s.askPiece (b.pos + b.bytes.length) (b.len - b.bytes.length) .read := by
  simp only [State.moverAsk, free, buffer, more, if_true, Bool.false_eq_true, if_false]

theorem State.moverAsk_write {s : State} {h : HeldPayload} {rest : List HeldPayload} (free : s.moverBusy = false)
    (buffer : s.mover.buffer = none) (stores : s.mover.stores = h :: rest) :
    s.moverAsk = s.askPiece (h.pos + h.done) (h.payload.drop h.done).length
      fun a n => .write a ((h.payload.drop h.done).take n) := by
  simp only [State.moverAsk, free, buffer, stores, Bool.false_eq_true, if_false]

theorem State.moverAsk_nothing {s : State} (buffer : s.mover.buffer = none) (stores : s.mover.stores = []) :
    s.moverAsk = s := by
  simp only [State.moverAsk, buffer, stores, ite_self]

theorem State.discardedEnds_quiet {s : State} {g : Granted}
    (quiet : (g.who ≠ .mover ∧ g.who ≠ .walker) ∨ (s.mover.buffer = none ∧ s.mover.stores = [])) :
    s.discardedEnds g = s := by
  unfold State.discardedEnds
  rcases quiet with ⟨mover, walker⟩ | ⟨buffer, stores⟩
  · exact if_neg (by simp [Requester.ofConnection, mover, walker])
  · rw [State.moverAsk_nothing buffer stores, ite_self]

theorem State.discardedEnds_connection {s : State} {g : Granted} (who : g.who = .mover ∨ g.who = .walker) :
    s.discardedEnds g = s.moverAsk :=
  if_pos (by simpa [Requester.ofConnection] using who)

/-- The copier's next write. -/
theorem State.copierAsk_eq {s : State} {c : CopyOut} (copier : s.copier = some c) :
    s.copierAsk = { s with port := s.port.asked .copier (.write (c.addr + c.done)
      ((c.bytes.drop c.done).take (chunk (c.addr + c.done) (c.bytes.length - c.done)))) } := by
  have asks : s.copierAsk = s.request .copier (.write (c.addr + c.done)
      ((c.bytes.drop c.done).take (chunk (c.addr + c.done) (c.bytes.length - c.done)))) := by
    rw [State.copierAsk, copier]
  exact asks.trans (State.request_eq ..)

theorem State.copierWrote_more {s : State} {c : CopyOut} {n : Nat} (copier : s.copier = some c)
    (more : c.done + n < c.bytes.length) :
    s.copierWrote n = { s with
      copier := some { c with done := c.done + n }
      port := s.port.asked .copier (.write (c.addr + (c.done + n))
        ((c.bytes.drop (c.done + n)).take (chunk (c.addr + (c.done + n)) (c.bytes.length - (c.done + n))))) } := by
  have goesOn : s.copierWrote n = State.copierAsk { s with copier := some { c with done := c.done + n } } := by
    rw [State.copierWrote, copier]
    exact if_pos more
  exact goesOn.trans ((State.copierAsk_eq (c := { c with done := c.done + n }) rfl).trans rfl)

/-- Settles O54: an orphan first, a discarded result, a copy-out that goes on, and the arbiter. -/
theorem localTransactions : Obligations.LocalTransactions := by
  refine ⟨fun s data => ⟨fun idle none => ⟨?_, ?_⟩, fun a bytes rest orphans empty => ?_, fun t rest orphans => ?_,
    fun orphans left => ⟨fun who a bytes current empty quiet => ⟨?_, ?_⟩, fun who t place room b current who' waiting
      fetch noList buffer more found inside => ?_, fun a bytes r current copier whole more empty => ?_⟩⟩,
    fun s who t => ⟨fun idle => ?_, fun busy => ?_⟩, fun p => ⟨Port.grantNext_idle, Port.grantNext_waiting⟩⟩
  · exact next_congr (by simp only [State.transactionEnds, none, idle])
  · exact next_congr (by simp only [State.transactionFails, none, idle])
  · subst empty
    refine next_congr ?_
    simp only [State.transactionEnds, orphans]
    rfl
  · exact next_congr (by simp only [State.transactionFails, orphans])
  · subst empty
    refine next_congr ((State.transactionEnds_discarded orphans current rfl
      (State.discardedEnds_quiet (by exact quiet))).trans ?_)
    exact State.drainTest_eq_of_left left rfl rfl (fun _ => id) id id
  · refine next_congr ((State.transactionFails_discarded orphans current
      (State.discardedEnds_quiet (by exact quiet))).trans ?_)
    exact State.drainTest_eq_of_left left rfl rfl (fun _ => id) id id
  · have free : State.moverBusy { s with port := s.port.settle } = false :=
      State.moverBusy_eq_false fetch waiting fun g c _ => s.port.settle_ended g c
    have asks : State.moverAsk { s with port := s.port.settle } = { s with
        port := (s.port.settle.asked .mover (.read place (min (min (b.len - b.bytes.length) room) (64 - place % 64)))) } := by
      refine (State.moverAsk_read free (by exact buffer) more).trans ?_
      have settled := State.cursorSettled_of_no_list (s := { s with port := s.port.settle }) noList
      refine (State.askPiece_found (a := place) (room := room) (by rw [settled]; exact found) inside).trans ?_
      rw [settled]
      rfl
    refine next_congr ((State.transactionFails_discarded orphans current
      ((State.discardedEnds_connection who').trans asks)).trans ?_)
    refine State.drainTest_eq_of_left left ?_ rfl (fun _ => id) id id
    exact congrArg (fun p => { s with port := p }) (Port.grantNext_asked current ..)
  · subst empty
    refine next_congr ((State.transactionEnds_running orphans current rfl
      (State.copierWrote_more (by exact copier) (by rw [whole]; exact more))).trans ?_)
    refine State.drainTest_eq_of_left left ?_ rfl (fun _ => id) id id
    rw [whole]
    exact congrArg (fun p => { s with
      copier := some { r with done := r.done + bytes.length }, mem := Memory.write s.mem a bytes, port := p })
      (Port.grantNext_asked current ..)
  · simp only [State.request, idle]
  · obtain ⟨g, current⟩ := Option.ne_none_iff_exists'.mp busy
    simp only [State.request, current]

end Sys2Proof.Machine
end

section
/-! The copier, the loader and the completion writer at the ends of their transactions (files 08, 09, 11). -/

namespace Sys2Proof.Machine

/-! ### The transaction in progress -/

theorem State.liveTransaction?_running {s : State} {who : Requester} {t : Transaction} (orphans : s.port.orphans = [])
    (current : s.port.current = some ⟨who, t, .running⟩) : s.liveTransaction? = some ⟨who, t, .running⟩ := by
  simp [State.liveTransaction?, orphans, current]

/-! ### TAKE_NOTE and the copy-out (R126, R127) -/

theorem State.copierWrote_last {s : State} {c : CopyOut} {n : Nat} (copier : s.copier = some c)
    (last : c.done + n = c.bytes.length) : s.copierWrote n = s.copyEnded := by
  rw [State.copierWrote, copier]
  exact if_neg (by omega)

theorem State.copyEnded_of_copying {s : State} (copying : s.notes.copying = true) :
    s.copyEnded = ({ s with copier := none, notes := { s.notes with stored := s.notes.stored.tail, copying := false } } :
      State).finish codeTakeNote .ok s.notes.stored.tail.length :=
  if_pos (by exact copying)

theorem State.copyEnded_of_cleared {s : State} (cleared : s.notes.copying = false) :
    s.copyEnded = ({ s with copier := none } : State).finish codeTakeNote .ok 0 :=
  if_neg (by rw [cleared]; decide)

/-- Settles O22: TAKE_NOTE by its address and the list, and the last write of its copy-out. -/
theorem noteCopiedOut : Obligations.NoteCopiedOut := by
  refine ⟨fun s ready => ⟨fun beyond => ?_, fun inside none => ?_, fun inside n rest stored whole => ?_⟩,
    fun s a bytes r orphans current copier last left => ⟨fun n rest stored copying => ?_, fun cleared => ?_⟩⟩
  · exact next_congr ((State.takeCommand_ready _ ready).trans (if_pos beyond))
  · refine next_congr ((State.takeCommand_ready _ ready).trans ((if_neg (not_lt.mpr inside)).trans ?_))
    have empty : s.accepted.notes.stored = [] := none
    rw [empty]
    rfl
  · refine next_congr ((State.takeCommand_ready _ ready).trans ((if_neg (not_lt.mpr inside)).trans ?_))
    have head : s.accepted.notes.stored = n :: rest := stored
    rw [head]
    refine (State.copierAsk_eq rfl).trans ?_
    dsimp only
    rw [whole]
    rfl
  all_goals
    have final : s.lastOfCopy = true := by
      simp only [State.lastOfCopy, State.liveTransaction?_running orphans current, copier]
      exact decide_eq_true last.ge
    refine next_congr ((if_pos final).trans ?_)
  · refine (State.transactionEnds_running orphans current rfl ((State.copierWrote_last (by exact copier) last).trans
      (State.copyEnded_of_copying (by exact copying)))).trans ?_
    refine State.drainTest_eq_of_left left ?_ rfl (fun _ => id) id id
    have tail : (s.settling (.write a bytes)).notes.stored.tail = rest := congrArg List.tail stored
    rw [tail]
    rfl
  · refine (State.transactionEnds_running orphans current rfl ((State.copierWrote_last (by exact copier) last).trans
      (State.copyEnded_of_cleared (by exact cleared)))).trans ?_
    exact State.drainTest_eq_of_left left rfl rfl (fun _ => id) id id

/-! ### Faults (R150, R172, R4) -/

theorem State.writerFault_eq {s : State} {r : Record} (record : s.writer.record = some r) (a : Nat) :
    s.writerFault a = { s with
      writer := { state := .suspended, record := some { r with done := 0 } }
      host := { s.host.raised .ringFault with faultAddress := BitVec.ofNat 32 a } } := by
  unfold State.writerFault
  rw [record]
  rfl

theorem State.freeLoading_eq {s : State} {i : SlotId} (loading : (s.slot i).state = .loading) :
    s.freeLoading i = { s with sched := s.sched.put i (Slot.blank (s.slot i).gen) } :=
  if_pos loading

theorem State.loadStopped_eq {s : State} {i : SlotId} {a : Nat} {b : List Byte} {stopping : Bool}
    (loader : s.loader = some ⟨.descriptor i, a, b, stopping⟩) (loading : (s.slot i).state = .loading) :
    s.loadStopped = ({ s with loader := none, sched := s.sched.put i (Slot.blank (s.slot i).gen) } : State).finish
      codePost .notOnline := by
  have stops : s.loadStopped = State.finish (State.freeLoading { s with loader := none } i) codePost .notOnline := by
    rw [State.loadStopped, loader]
  exact stops.trans (congrArg (State.finish · codePost .notOnline) (State.freeLoading_eq loading))

theorem State.loaderFault_descriptor {s : State} {i : SlotId} {a : Nat} {b : List Byte}
    (loader : s.loader = some ⟨.descriptor i, a, b, false⟩) (loading : (s.slot i).state = .loading) :
    s.loaderFault = ({ s with loader := none, sched := s.sched.put i (Slot.blank (s.slot i).gen) } : State).finish
      codePost .localFault 1 := by
  have faults : s.loaderFault = State.finish (State.freeLoading { s with loader := none } i) codePost .localFault 1 := by
    rw [State.loaderFault, loader]
    rfl
  exact faults.trans (congrArg (State.finish · codePost .localFault 1) (State.freeLoading_eq loading))

theorem State.loaderFault_config {s : State} {a : Nat} {b : List Byte} (loader : s.loader = some ⟨.config, a, b, false⟩) :
    s.loaderFault = (State.raise .stateChanged { s with
      loader := none, station := { s.station with state := .offline, cause := .none } }).finish codeJoin .localFault 1 := by
  rw [State.loaderFault, loader]
  rfl

theorem State.loaderFault_stopping {s : State} {l : Load} (loader : s.loader = some l) (stopping : l.stopping = true) :
    s.loaderFault = s.loadStopped := by
  rw [State.loaderFault, loader]
  exact if_pos stopping

theorem State.loaderRead_stopping {s : State} {l : Load} (loader : s.loader = some l) (stopping : l.stopping = true)
    (data : List Byte) : s.loaderRead data = s.loadStopped := by
  rw [State.loaderRead, loader]
  exact if_pos stopping

/-- A station that is not LEAVING, or holds another exchange, is not drained when one slot is freed. -/
theorem State.drainTest_put {s t u : State} {i : SlotId} {x : Slot}
    (left : (∃ j, j ≠ i ∧ (s.slot j).state ≠ .free) ∨ s.station.state ≠ .leaving) (same : t = u)
    (sched : u.sched = s.sched.put i x) (station : u.station.state = s.station.state) : t.drainTest = u := by
  subst same
  rcases left with ⟨j, other, busy⟩ | online
  · refine State.drainTest_of_slot (i := j) ?_
    have same : t.slot j = s.slot j :=
      (congrArg (Scheduler.slot · j) sched).trans ((Scheduler.slot_put ..).trans (if_neg other))
    rw [same]
    exact busy
  · exact State.drainTest_of_not_leaving t (station ▸ online)

/-- Settles O55: each requester's local fault, and a load that was told to stop. -/
theorem localFaults : Obligations.LocalFaults := by
  refine fun s txn orphans left => ⟨fun at' => ?_, fun at' r record => ?_, fun at' => ?_,
    fun i a b at' loader loading busy => ?_, fun i a b c data at' loader loading busy which => ?_, fun a b at' loader => ?_⟩
  · have faults : s.transactionFails = (State.moverFault { s with port := s.port.settle } .busError).grant.drainTest :=
      at'.elim (fun c => State.transactionFails_running orphans c rfl) fun c => State.transactionFails_running orphans c rfl
    exact next_congr (faults.trans (State.drainTest_eq_of_left left rfl rfl (fun _ => id) id id))
  · refine next_congr ((State.transactionFails_running orphans at' (State.writerFault_eq (by exact record) _)).trans ?_)
    exact State.drainTest_eq_of_left left rfl rfl (fun _ => id) id id
  · refine next_congr ((State.transactionFails_running orphans at' rfl).trans ?_)
    exact State.drainTest_eq_of_left left rfl rfl (fun _ => id) id id
  · refine next_congr ((State.transactionFails_running orphans at'
      (State.loaderFault_descriptor (by exact loader) loading)).trans ?_)
    exact State.drainTest_put busy rfl rfl rfl
  · rcases which with rfl | ⟨rfl, z, n, rfl, length⟩
    · refine next_congr ((State.transactionFails_running orphans at' ((State.loaderFault_stopping (by exact loader) rfl).trans
        (State.loadStopped_eq (by exact loader) loading))).trans ?_)
      exact State.drainTest_put busy rfl rfl rfl
    · refine next_congr ((State.transactionEnds_running orphans at' (decide_eq_true length)
        ((State.loaderRead_stopping (by exact loader) rfl _).trans (State.loadStopped_eq (by exact loader) loading))).trans ?_)
      exact State.drainTest_put busy rfl rfl rfl
  · refine next_congr ((State.transactionFails_running orphans at' (State.loaderFault_config (by exact loader))).trans ?_)
    exact (State.drainTest_of_not_leaving _ (by exact fun h => nomatch h)).trans rfl

end Sys2Proof.Machine
end

section
/-! The ends of POST and JOIN (file 12), and the completion writer (file 11). -/

namespace Sys2Proof.Machine

/-! ### A slot placed and moved on at once -/

/-- A slot that is replaced and then queued. -/
theorem State.queueSlot_setSlot {s : State} {i : SlotId} {x : Slot}
    (may : x.state = .loading ∨ x.state = .armed ∨ x.state = .selected) :
    (s.setSlot i x).queueSlot i = { s with sched := s.sched.queued i x } := by
  have same : (s.setSlot i x).slot i = x := State.slot_setSlot_self ..
  simp only [State.queueSlot, same, may, if_true]
  simp only [State.setSlot, Scheduler.queued, Vector.set_set]

/-- A live or LOADING slot that does not end DONE has nothing more to come. -/
theorem State.finishSlot_undone {s : State} {i : SlotId} {o : ExchangeOutcome}
    (may : (s.slot i).state.live = true ∨ (s.slot i).state = .loading) (undone : o ≠ .done) :
    s.finishSlot i o = { s with sched := s.sched.ended i o } := by
  have final : (s.slot i).more o = false := by rw [Slot.more_eq, decide_eq_false undone, Bool.false_and]
  rcases s.finishSlot_cases i o with same | ⟨-, ended⟩
  · simp only [State.finishSlot, may, if_true, final]
    rfl
  · rw [ended, final]
    rfl

/-! ### The end of a load (R144) -/

theorem State.loaderRead_descriptor {s : State} {i : SlotId} {a : Nat} {b data : List Byte}
    (loader : s.loader = some ⟨.descriptor i, a, b, false⟩) (whole : b.length + data.length = 32) :
    s.loaderRead data = ({ s with loader := none } : State).descriptorLoaded i (b ++ data) := by
  have last : ¬ (b ++ data).length < 32 := by rw [List.length_append]; omega
  rw [State.loaderRead, loader]
  exact if_neg last

theorem State.loaderRead_config {s : State} {a : Nat} {b data : List Byte}
    (loader : s.loader = some ⟨.config, a, b, false⟩) (whole : b.length + data.length = 160) :
    s.loaderRead data = ({ s with loader := none } : State).configLoaded (b ++ data) := by
  have last : ¬ (b ++ data).length < 160 := by rw [List.length_append]; omega
  rw [State.loaderRead, loader]
  exact if_neg last

theorem State.lastOfLoad?_eq {s : State} {l : Load} {a n : Nat} (orphans : s.port.orphans = [])
    (current : s.port.current = some ⟨.loader, .read a n, .running⟩) (loader : s.loader = some l)
    (last : l.bytes.length + n ≥ l.kind.size) (goesOn : l.stopping = false) : s.lastOfLoad? = some l.kind := by
  simp only [State.lastOfLoad?, State.liveTransaction?_running orphans current, loader]
  exact if_pos ⟨last, goesOn⟩

theorem State.descriptorLoaded_invalid {s : State} {i : SlotId} {b : List Byte} {m : Nat}
    (fails : (parseDescriptor b).failing? s.ownId = some m) (loading : (s.slot i).state = .loading) :
    s.descriptorLoaded i b = ({ s with sched := s.sched.put i (Slot.blank (s.slot i).gen) } : State).finish
      codePost .descriptorInvalid m := by
  simp only [State.descriptorLoaded, fails]
  exact congrArg (State.finish · codePost .descriptorInvalid m) (State.freeLoading_eq loading)

theorem State.descriptorLoaded_valid {s u : State} {i : SlotId} {b : List Byte} {g : Generation}
    (passes : (parseDescriptor b).failing? s.ownId = none) (placed : s.placeSlot i (parseDescriptor b) = u)
    (gen : (u.slot i).gen = g) : s.descriptorLoaded i b = u.finish codePost .ok (i.val + 256 * g.val) := by
  simp only [State.descriptorLoaded, passes, placed]
  rw [← gen]
  rfl

theorem State.placeSlot_standing {s : State} {i : SlotId} {d : Descriptor} (loading : (s.slot i).state = .loading)
    (standing : d.standing = true) :
    s.placeSlot i d = s.setSlot i { d.fill (s.slot i) with state := .armed } := by
  simp only [State.placeSlot, loading, ne_eq, not_true_eq_false, if_false, standing, if_true]

/-- The first repetition of an exchange that is not standing starts at once (R3, R5). -/
theorem State.placeSlot_once {s : State} {i : SlotId} {d : Descriptor} (loading : (s.slot i).state = .loading)
    (once : d.standing = false) :
    s.placeSlot i d =
      if (s.peer (d.fill (s.slot i)).peer).state = .silent then
        (s.setSlot i { d.fill (s.slot i) with gen := (s.slot i).gen + 1 }).finishSlot i .peerSilent
      else { s with sched := s.sched.queued i { d.fill (s.slot i) with gen := (s.slot i).gen + 1 } } := by
  have first : (d.fill (s.slot i)).startRepetition = { d.fill (s.slot i) with gen := (s.slot i).gen + 1 } := rfl
  simp only [State.placeSlot, loading, ne_eq, not_true_eq_false, if_false, once, Bool.false_eq_true]
  rw [first, State.queueSlot_setSlot (.inl rfl)]
  rfl

/-! ### The checks (R2, R155) -/

/-- A list of checks passes when the first does and the others do. -/
theorem check_eq_none_iff {c : Prop} [Decidable c] {n : Nat} {others : Option Nat} :
    (if c then some n else others) = none ↔ ¬ c ∧ others = none := by
  split <;> simp [*]

/-- The checks of R2 pass exactly on the legal values. -/
theorem Descriptor.failing?_eq_none_iff (own : StationId) (d : Descriptor) :
    d.failing? own = none ↔
      (d.op = 1 ∨ d.op = 2 ∨ d.op = 3) ∧ d.peer ≤ 15 ∧ d.peer ≠ own.val ∧
      (d.op ≠ 3 → d.window ≤ 7 ∧ d.offset ≤ 16777215) ∧
      1 ≤ d.length ∧ d.length ≤ (if d.op = 3 then 32 else 16777216) ∧
      (d.form = 1 ∨ d.form = 2) ∧ (d.form = 1 → d.localAddr + d.length ≤ 4294967296) ∧
      (d.form = 2 → 1 ≤ d.segments ∧ d.segments ≤ 256) ∧ (d.standing = true → d.line ≤ 3) := by
  simp only [Descriptor.failing?, check_eq_none_iff, decide_eq_true_eq, Config.maxLength, Config.maxNote,
    Config.localTop]
  by_cases note : d.op = 3 <;> cases d.standing <;> grind

theorem WindowBlock.legal_iff (w : WindowBlock) : w.legal = true ↔
    (w.enabled = true → 1 ≤ w.size ∧ w.size ≤ 16777216 ∧ w.base + w.size ≤ 4294967296) := by
  cases h : w.enabled
  · simp [WindowBlock.legal, h]
  · simp only [WindowBlock.legal, h, Bool.not_true, Bool.false_or, decide_eq_true_eq, true_implies]
    exact Iff.rfl

/-- The checks of R155 pass exactly on the legal values. -/
theorem ConfigBlock.failing?_eq_none_iff (k : ConfigBlock) :
    k.failing? = none ↔
      k.id ≤ 15 ∧ 4 ≤ k.answerTime ∧ k.answerTime ≤ 255 ∧ 4 ≤ k.ackTime ∧ k.ackTime ≤ 255 ∧
      k.resumeDeadline ≠ 0 ∧ k.parkLimit ≠ 0 ∧ k.tenureLimit ≠ 0 ∧
      (k.ringSize = 16 ∨ k.ringSize = 32 ∨ k.ringSize = 64 ∨ k.ringSize = 128 ∨ k.ringSize = 256 ∨
        k.ringSize = 512 ∨ k.ringSize = 1024) ∧
      k.ringBase + k.ringSize * 32 ≤ 4294967296 ∧
      ∀ w, (k.window w).enabled = true →
        1 ≤ (k.window w).size ∧ (k.window w).size ≤ 16777216 ∧ (k.window w).base + (k.window w).size ≤ 4294967296 := by
  have windows : ((windowIds.find? fun w => !(k.window w).legal).map fun w => 9 + w.val) = none ↔
      ∀ w, (k.window w).enabled = true →
        1 ≤ (k.window w).size ∧ (k.window w).size ≤ 16777216 ∧ (k.window w).base + (k.window w).size ≤ 4294967296 := by
    have all : ∀ w, w ∈ windowIds := by decide
    simp only [Option.map_eq_none_iff, List.find?_eq_none, Bool.not_eq_true', Bool.not_eq_false, WindowBlock.legal_iff]
    exact ⟨fun legal w => legal w (all w), fun legal w _ => legal w⟩
  have sizes : k.ringSize ∈ ringSizes ↔ (k.ringSize = 16 ∨ k.ringSize = 32 ∨ k.ringSize = 64 ∨ k.ringSize = 128 ∨
      k.ringSize = 256 ∨ k.ringSize = 512 ∨ k.ringSize = 1024) := by
    simp [ringSizes]
  simp only [ConfigBlock.failing?, check_eq_none_iff, sizes, Config.recordBytes, Config.localTop]
  grind

/-- Settles O56: the last read of a descriptor, by its checks. -/
theorem descriptorLoadEnds : Obligations.DescriptorLoadEnds := by
  refine ⟨fun s data b a n addr i orphans current loader whole length loading online => ?_,
    Descriptor.failing?_eq_none_iff⟩
  subst length
  have runs {u : State} (goes : State.descriptorLoaded { s.settling (.read a data.length) with loader := none } i (b ++ data) = u)
      (station : u.station = s.station) :
      exec (.descriptorLoadEnds data) s = .next u.grant := by
    have last := State.lastOfLoad?_eq orphans current loader (n := data.length) (by exact whole.ge) rfl
    have ends : exec (.descriptorLoadEnds data) s = .next (s.transactionEnds data) := by
      refine next_congr ?_
      rw [last]
    refine ends.trans (next_congr ((State.transactionEnds_running orphans current (decide_eq_true rfl)
      ((State.loaderRead_descriptor (by exact loader) whole).trans goes)).trans ?_))
    exact State.drainTest_of_not_leaving _ fun leaving => nomatch online.symm.trans ((congrArg (·.state) station.symm).trans leaving)
  refine ⟨fun m fails => ?_, fun passes standing => ?_, fun passes once present => ?_, fun passes once silent _ => ?_⟩
  · exact (runs (State.descriptorLoaded_invalid (by exact fails) (by exact loading)) rfl).trans rfl
  · exact (runs (State.descriptorLoaded_valid (by exact passes) (State.placeSlot_standing (by exact loading) standing)
      (congrArg Slot.gen (State.slot_setSlot_self ..))) rfl).trans rfl
  · have placed := (State.placeSlot_once (s := { s.settling (.read a data.length) with loader := none }) (by exact loading)
      once).trans (if_neg present)
    have gen : ((s.sched.queued i { (parseDescriptor (b ++ data)).fill (s.slot i) with gen := (s.slot i).gen + 1 }).slot i).gen =
        (s.slot i).gen + 1 := by
      rw [Scheduler.slot_queued, if_pos rfl]
    exact (runs (State.descriptorLoaded_valid (by exact passes) placed gen) rfl).trans rfl
  · let first : Slot := { (parseDescriptor (b ++ data)).fill (s.slot i) with gen := (s.slot i).gen + 1 }
    let before : State := { s.settling (.read a data.length) with loader := none }
    have same : (before.setSlot i first).slot i = first := State.slot_setSlot_self ..
    have ended := State.finishSlot_undone (s := before.setSlot i first) (i := i) (o := .peerSilent)
      (.inr (by rw [same]; rfl)) (by decide)
    have placed : before.placeSlot i (parseDescriptor (b ++ data)) = (before.setSlot i first).finishSlot i .peerSilent :=
      (State.placeSlot_once (s := before) (by exact loading) once).trans (if_pos silent)
    have gen : (((s.sched.put i first).ended i .peerSilent).slot i).gen = (s.slot i).gen + 1 := by
      rw [Scheduler.slot_ended, if_pos rfl, Scheduler.slot_put, if_pos rfl]
      rfl
    exact (runs (State.descriptorLoaded_valid (by exact passes) (placed.trans ended) gen) rfl).trans rfl

/-! ### The end of a JOIN (R155) -/

theorem State.configLoaded_invalid {s : State} {b : List Byte} {m : Nat} (fails : (parseConfig b).failing? = some m) :
    s.configLoaded b = (State.raise .stateChanged { s with
      station := { s.station with state := .offline, cause := .none } }).finish codeJoin .configInvalid m := by
  simp only [State.configLoaded, fails]

theorem State.configLoaded_valid {s : State} {b : List Byte} (passes : (parseConfig b).failing? = none) :
    s.configLoaded b = (State.raise .stateChanged { s with
      station := { s.station with
        state := .joining, settings := some (parseConfig b).settings, rollcallDue := true, rollcallTimer := none
        collisionRun := 0, peers := Vector.replicate 16 Peer.unknown }
      service := { s.service with windows := Vector.ofFn fun w => ((parseConfig b).window w).entry }
      writer := ⟨.running, none⟩
      host := { s.host with producer := 0, consumer := 0 } }).finish codeJoin .ok := by
  simp only [State.configLoaded, passes]

/-- Settles O57: the last read of a configuration block, by its checks. -/
theorem configLoadEnds : Obligations.ConfigLoadEnds := by
  refine ⟨fun s data b a n addr orphans current loader whole length configuring => ?_,
    ConfigBlock.failing?_eq_none_iff⟩
  subst length
  have runs {u : State} (goes : State.configLoaded { s.settling (.read a data.length) with loader := none } (b ++ data) = u)
      (station : u.station.state ≠ .leaving) : exec (.configLoadEnds data) s = .next u.grant := by
    have last := State.lastOfLoad?_eq orphans current loader (n := data.length) (by exact whole.ge) rfl
    have ends : exec (.configLoadEnds data) s = .next (s.transactionEnds data) := by
      refine next_congr ?_
      rw [last]
    refine ends.trans (next_congr ((State.transactionEnds_running orphans current (decide_eq_true rfl)
      ((State.loaderRead_config (by exact loader) whole).trans goes)).trans ?_))
    exact State.drainTest_of_not_leaving _ station
  refine ⟨fun m fails => ?_, fun passes => ?_⟩
  · exact (runs (State.configLoaded_invalid fails) (by exact fun h => nomatch h)).trans rfl
  · refine ⟨_, runs (State.configLoaded_valid passes) (by exact fun h => nomatch h), rfl, rfl, rfl, fun w => ?_⟩
    exact Vector.getElem_ofFn w.isLt

end Sys2Proof.Machine
end

section
/-! The completion writer's records (file 11). -/

namespace Sys2Proof.Machine

theorem State.takeRecord_idle {s : State} (idle : s.writer.state ≠ .running ∨ s.writer.record ≠ none ∨
    s.sched.finished = [] ∨ ¬ s.unconsumed + 1 < s.settings.ringSize) : s.takeRecord = s := by
  unfold State.takeRecord
  split
  · next i rest running none finished =>
    refine if_neg ?_
    rcases idle with h | h | h | full
    · exact absurd running h
    · exact absurd none h
    · rw [finished] at h
      cases h
    · exact full
  · rfl

theorem State.takeRecord_head {s : State} {i : SlotId} {rest : List SlotId} (running : s.writer.state = .running)
    (none : s.writer.record = none) (finished : s.sched.finished = i :: rest)
    (room : s.unconsumed + 1 < s.settings.ringSize) :
    s.takeRecord = State.writerAsk { s with
      sched := s.sched.put i (s.slot i).clearMissed
      writer := { s.writer with record := some ⟨i, (s.slot i).moreToCome, recordBytesOf i (s.slot i), 0⟩ } } := by
  unfold State.takeRecord
  split
  · next j others _ _ head =>
    obtain rfl : i = j := (List.cons.inj (finished.symm.trans head)).1
    exact if_pos room
  · next other => exact (other i rest running none finished).elim

/-! ### A record is written (R23, R136) -/

theorem State.recordWritten_freed {s : State} {i : SlotId} {more : Bool} (finished : (s.slot i).state = .finished)
    (final : more = false) : s.recordWritten i more = { s with sched :=
      ({ s.sched with finished := s.sched.finished.erase i } : Scheduler).put i (Slot.blank (s.slot i).gen) } := by
  subst final
  simp only [State.recordWritten, finished, ne_eq, not_true_eq_false, Bool.false_eq_true, if_false]
  rfl

/-- The slot that a record with more to come re-arms (R131, R136). -/
def Slot.rearmed (x : Slot) (st : Standing) : Slot :=
  { x with
    state := .armed, offset := st.reloadOffset, localAddr := st.reloadLocal, length := st.reloadLength
    progress := 0, cursor := ⟨0, 0⟩, outcome := none, moreToCome := false, callOut := false, cancelRequested := false }

theorem Slot.rearmed_eq {x : Slot} {st : Standing} (standing : x.standing = some st) :
    ({ x.reload with
        state := .armed, progress := 0, cursor := Cursor.start, outcome := none, moreToCome := false,
        callOut := false, cancelRequested := false } : Slot) = x.rearmed st := by
  have reload : x.reload = { x with offset := st.reloadOffset, localAddr := st.reloadLocal, length := st.reloadLength } := by
    rw [Slot.reload, standing]
  rw [reload]
  rfl

theorem State.recordWritten_rearmed {s : State} {i : SlotId} {st : Standing} {more : Bool}
    (finished : (s.slot i).state = .finished) (goesOn : more = true) (standing : (s.slot i).standing = some st) :
    s.recordWritten i more = { s with sched :=
      if s.station.state = .online then
        ({ s.sched with finished := s.sched.finished.erase i } : Scheduler).put i ((s.slot i).rearmed st)
      else (({ s.sched with finished := s.sched.finished.erase i } : Scheduler).put i ((s.slot i).rearmed st)).ended i .left } := by
  subst goesOn
  let out : State := { s with sched := { s.sched with finished := s.sched.finished.erase i } }
  have written : s.recordWritten i true = if s.station.state = .online then out.setSlot i ((s.slot i).rearmed st)
      else (out.setSlot i ((s.slot i).rearmed st)).finishSlot i .left := by
    rw [← Slot.rearmed_eq standing]
    simp only [State.recordWritten, finished, ne_eq, not_true_eq_false, if_false, if_true]
    rfl
  rw [written]
  split
  · rfl
  · refine (State.finishSlot_of_live ?_ (by decide)).trans rfl
    rw [State.slot_setSlot_self]
    rfl

/-- A slot that was replaced by one in use, ended or not, is not FREE. -/
theorem Scheduler.not_free_of_put_or_ended {c : Scheduler} {i : SlotId} {x : Slot} {o : ExchangeOutcome} {p : Prop}
    [Decidable p] (busy : x.state ≠ .free) :
    ((if p then c.put i x else (c.put i x).ended i o).slot i).state ≠ .free := by
  split
  · rw [Scheduler.slot_put, if_pos rfl]
    exact busy
  · rw [Scheduler.state_ended]
    decide

/-- The end of a record, by what becomes of its slot (R170). -/
theorem State.recordEnded_eq {s : State} {r : Record} {sched : Scheduler} {p : Nat}
    (next : p = (s.host.producer + 1) % s.settings.ringSize)
    (written : (State.raise .completion { s with
        host := { s.host with producer := p }, writer := { s.writer with record := none } }).recordWritten r.slot r.more =
      { State.raise .completion { s with
          host := { s.host with producer := p }, writer := { s.writer with record := none } } with sched := sched }) :
    s.recordEnded r = { s with
      sched := sched
      writer := { state := if s.settings.ringSize ≤ (p + s.settings.ringSize - s.host.consumer) % s.settings.ringSize + 1
                    then .stalled else s.writer.state
                  record := none }
      host := { s.host.raised .completion with producer := p } } := by
  subst next
  unfold State.recordEnded
  dsimp only
  rw [written]
  by_cases full : s.settings.ringSize ≤ ((s.host.producer + 1) % s.settings.ringSize + s.settings.ringSize -
      s.host.consumer) % s.settings.ringSize + 1
  · rw [if_pos full]
    exact if_pos full
  · rw [if_neg full]
    exact if_neg full

theorem State.writerWrote_last {s : State} {r : Record} {n : Nat} (record : s.writer.record = some r)
    (last : r.done + n = r.bytes.length) : s.writerWrote n = s.recordEnded r := by
  rw [State.writerWrote, record]
  exact if_neg (by omega)

/-- Settles O59: the head of the finished list is taken, and its record ends by its more-to-come flag. -/
theorem completionWriter : Obligations.CompletionWriter := by
  refine ⟨fun s => ⟨fun idle => next_congr (State.takeRecord_idle idle), fun running none room inside i rest finished whole =>
    ?_⟩, fun s a bytes r orphans current record last finished => ?_⟩
  · refine next_congr ((State.takeRecord_head running none finished room).trans ?_)
    exact (State.writerAsk_place rfl rfl whole (by exact inside)).trans rfl
  have final : s.lastOfRecord = true := by
    simp only [State.lastOfRecord, State.liveTransaction?_running orphans current, record]
    exact decide_eq_true last.ge
  have ends {u : State} (ended : (s.settling (.write a bytes)).recordEnded r = u) :
      exec .completionRecordWritten s = .next u.grant.drainTest :=
    next_congr ((if_pos final).trans (State.transactionEnds_running orphans current rfl
      ((State.writerWrote_last (by exact record) last).trans ended)))
  refine ⟨fun freed => ?_, fun more st standing _ => ?_⟩
  · exact (ends (State.recordEnded_eq rfl (State.recordWritten_freed (by exact finished) freed))).trans rfl
  · have ended := State.recordEnded_eq rfl (State.recordWritten_rearmed (s := State.raise .completion { s.settling (.write a bytes) with
      host := { s.host with producer := (s.host.producer + 1) % s.settings.ringSize }
      writer := { s.writer with record := none } }) (by exact finished) more (by exact standing))
    refine (ends ended).trans (next_congr ((State.drainTest_of_slot (i := r.slot) fun free => ?_).trans rfl))
    exact Scheduler.not_free_of_put_or_ended (x := (s.slot r.slot).rearmed st) (fun h => nomatch h) free

end Sys2Proof.Machine
end

section
/-! The ends of the mover's and the walker's transactions (10.3, 10.4). -/

namespace Sys2Proof.Machine

/-! ### Where the next piece lies -/

theorem State.usesList_iff (s : State) : s.usesList = true ↔ s.engine.role = .initiator ∧ s.ownSlot.form = .list := by
  simp [State.usesList]

/-- In a list the place is the walker's answer. -/
theorem State.placeOf_of_list {s : State} (list : s.usesList = true) (p : Nat) :
    s.placeOf p = s.mover.place s.ownSlot.segments := by
  obtain ⟨role, form⟩ := s.usesList_iff.mp list
  simp only [State.placeOf, role, form, if_true]

/-- Outside a list the place does not depend on the mover and the port. -/
theorem State.placeOf_of_no_list {s : State} (none : s.usesList = false) (m : Mover) (q : Port) (p : Nat) :
    ({ s with mover := m, port := q } : State).placeOf p = s.placeOf p := by
  unfold State.placeOf
  dsimp only
  split
  · rfl
  · next role =>
    have direct : s.ownSlot.form ≠ .list := fun list =>
      Bool.false_ne_true (none.symm.trans (s.usesList_iff.mpr ⟨role, list⟩))
    exact (if_neg direct).trans (if_neg direct).symm

/-- The bytes of the exchange lie at the same places. -/
structure State.SamePlaces (s r : State) : Prop where
  list : r.usesList = s.usesList
  segments : r.ownSlot.segments = s.ownSlot.segments
  address : r.ownSlot.localAddr = s.ownSlot.localAddr
  place : s.usesList = false → ∀ p, r.placeOf p = s.placeOf p

theorem State.SamePlaces.refl (s : State) : s.SamePlaces s := ⟨rfl, rfl, rfl, fun _ _ => rfl⟩

/-- The place of the next piece once the working cursor is settled. -/
theorem State.SamePlaces.settled {s r : State} (same : s.SamePlaces r) (m : Mover) (q : Port) (p : Nat) :
    (State.cursorSettled { r with mover := m, port := q }).placeOf p =
      if s.usesList then ({ m with working := if s.usesList then m.settled else m.working } : Mover).place s.ownSlot.segments
      else s.placeOf p := by
  let before : State := { r with mover := m, port := q }
  cases list : s.usesList with
  | true =>
    have uses : r.usesList = true := same.list.trans list
    have cursor : before.cursorSettled = { before with mover := { m with working := m.settled } } := by
      rw [State.cursorSettled, show before.usesList = true from uses]
      rfl
    rw [cursor, State.placeOf_of_list (by exact uses), if_pos rfl, if_pos rfl]
    exact congrArg (Mover.place _) same.segments
  | false =>
    have uses : r.usesList = false := same.list.trans list
    rw [State.cursorSettled_of_no_list (by exact uses), State.placeOf_of_no_list uses, same.place list]
    rfl

/-- What asking for a piece comes to at the end of a transaction, by the place where it lies: a request of the mover, or of the
walker that has to read the entry first, or the local fault (R145 to R150). -/
theorem State.piece_asked {s r : State} {c : Instr} {m : Mover} {p left : Nat} {make : Nat → Nat → Transaction}
    {g : Granted} (current : s.port.current = some g) (undrained : r.drained = false) (abort : r.engine.abortDue = none)
    (fetch : m.fetch = none) (same : s.SamePlaces r)
    (ends : exec c s = .next (State.askPiece { r with mover := m, port := s.port.settle } p left make).grant.drainTest) :
    let place := if s.usesList then
        ({ m with working := if s.usesList then m.settled else m.working } : Mover).place s.ownSlot.segments
      else s.placeOf p
    let m := { m with working := if s.usesList then m.settled else m.working }
    let asks (m : Mover) (who : Requester) (t : Transaction) : Prop := exec c s =
      .next { r with mover := m, port := Port.grantNext { s.port with waiting := s.port.waiting ++ [(who, t)] } }
    let faults (d : FaultDetail) : Prop := exec c s = .next { r with
      engine := { r.engine with abortDue := some (.localFault d) }
      mover := { m with buffer := none, stores := [] }, port := s.port.giveUp.grantNext }
    (∀ z room, place = .found z room → z < 4294967296 → asks m .mover (make z (min (min left room) (64 - z % 64)))) ∧
      (∀ z room, place = .found z room → 4294967296 ≤ z → faults .busError) ∧
      (∀ k, place = .fetch k → s.ownSlot.localAddr + 8 * k < 4294967296 →
        asks { m with fetch := some ⟨k, []⟩ } .walker (.read (s.ownSlot.localAddr + 8 * k)
          (min 8 (64 - (s.ownSlot.localAddr + 8 * k) % 64)))) ∧
      (∀ k, place = .fetch k → 4294967296 ≤ s.ownSlot.localAddr + 8 * k → faults .busError) ∧
      (place = .short → faults .segmentShort) := by
  intro place m' asks faults
  have at' {x : Place} (h : place = x) := (same.settled m s.port.settle p).trans h
  have list : (if r.usesList then m.settled else m.working) = if s.usesList then m.settled else m.working := by
    rw [same.list]
  have asked {mv : Mover} {who : Requester} {t : Transaction}
      (h : State.askPiece { r with mover := m, port := s.port.settle } p left make =
        { r with mover := mv, port := s.port.settle.asked who t }) : asks mv who t := by
    refine ends.trans (next_congr (State.drainTest_eq_of_left undrained ?_ rfl (fun _ => id) id id))
    rw [h]
    exact congrArg (fun q => { r with mover := mv, port := q }) (Port.grantNext_asked current who t)
  have faulted {mv : Mover} {d : FaultDetail} (same : mv.working = m'.working ∧ mv.cache = m'.cache)
      (h : State.askPiece { r with mover := m, port := s.port.settle } p left make =
        State.moverFault { r with mover := mv, port := s.port.settle } d) : faults d := by
    refine ends.trans (next_congr (State.drainTest_eq_of_left undrained ?_ rfl (fun _ => id) id id))
    have gone : ({ mv with buffer := none, stores := [], fetch := none } : Mover) = { m' with buffer := none, stores := [] } := by
      rw [same.1, same.2, ← fetch]
    have due : r.engine.abortDue.or (some (.localFault d)) = some (.localFault d) := by rw [abort, Option.none_or]
    rw [h]
    exact congr (congrArg (fun (a : Option AbortCause) (q : Mover) => ({ r with
      engine := { r.engine with abortDue := a }, mover := q, port := s.port.giveUp.grantNext } : State)) due) gone
  have cursor : State.cursorSettled { r with mover := m, port := s.port.settle } =
      { r with mover := m', port := s.port.settle } :=
    congrArg (fun w => ({ r with mover := { m with working := w }, port := s.port.settle } : State)) list
  refine ⟨fun z room found inside => asked ?_, fun z room found beyond => faulted ⟨rfl, rfl⟩ ?_,
    fun k entry inside => asked ?_, fun k entry beyond => faulted (mv := { m' with fetch := some ⟨k, []⟩ }) ⟨rfl, rfl⟩ ?_,
    fun short => faulted ⟨rfl, rfl⟩ ?_⟩
  · rw [State.askPiece_found (at' found) inside, cursor]
    rfl
  · rw [State.askPiece_beyond (at' found) beyond, cursor]
  · have address : ({ r with mover := m, port := s.port.settle } : State).ownSlot.localAddr = s.ownSlot.localAddr := same.address
    rw [State.askPiece_fetch (at' entry) (by rw [address]; exact inside), cursor, address]
    rfl
  · have address : ({ r with mover := m, port := s.port.settle } : State).ownSlot.localAddr = s.ownSlot.localAddr := same.address
    rw [State.askPiece_fetch_beyond (at' entry) (by rw [address]; exact beyond), cursor]
  · rw [State.askPiece_short (at' short), cursor]

end Sys2Proof.Machine
end

section
/-! What the mover and the walker do when their transactions end (10.3, 10.4). -/

namespace Sys2Proof.Machine

/-- The working cursor after `n` more bytes of a list. -/
def State.workingAfter (s : State) (n : Nat) : Cursor :=
  if s.usesList then { s.mover.working with offset := s.mover.working.offset + n } else s.mover.working

theorem State.advance_eq (s : State) (n : Nat) :
    s.advance n = { s with mover := { s.mover with working := s.workingAfter n } } := by
  unfold State.advance State.workingAfter
  split <;> rfl

/-! ### A payload is read (R145) -/

theorem State.moverRead_more {s : State} {b : PayloadBuffer} {data : List Byte} (buffer : s.mover.buffer = some b)
    (free : s.moverBusy = false) (more : b.bytes.length + data.length < b.len) :
    s.moverRead data = State.askPiece
      { s with mover := { s.mover with
          working := s.workingAfter data.length, buffer := some { b with bytes := b.bytes ++ data } } }
      (b.pos + (b.bytes.length + data.length)) (b.len - (b.bytes.length + data.length)) .read := by
  have length : (b.bytes ++ data).length = b.bytes.length + data.length := List.length_append
  have asks : s.moverRead data = State.moverAsk { s with mover := { s.mover with
      working := s.workingAfter data.length, buffer := some { b with bytes := b.bytes ++ data } } } := by
    rw [State.moverRead, buffer]
    dsimp only
    rw [State.advance_eq]
    exact if_pos (length.trans_lt more)
  rw [asks, ← length]
  exact State.moverAsk_read (b := { b with bytes := b.bytes ++ data }) (by exact free) rfl (length.trans_lt more)

theorem State.moverRead_whole {s : State} {b : PayloadBuffer} {data : List Byte} (buffer : s.mover.buffer = some b)
    (whole : b.bytes.length + data.length = b.len) :
    s.moverRead data = if b.discard then
        State.feed { s with mover := { s.mover with working := s.workingAfter data.length, buffer := none } }
      else { s with mover := { s.mover with
        working := s.workingAfter data.length, buffer := some { b with bytes := b.bytes ++ data } } } := by
  have length : ¬ (b.bytes ++ data).length < b.len := by rw [List.length_append, whole]; exact lt_irrefl _
  rw [State.moverRead, buffer]
  dsimp only
  rw [State.advance_eq]
  exact if_neg length

/-- A sender that is stopped, with nothing to send again, has no next frame (R84). -/
theorem State.nextFrame?_of_stopped {s : State} (stopped : s.stopped = true) (new : s.engine.resend? = none) :
    s.nextFrame? = none := by
  simp only [State.nextFrame?, new, stopped, Bool.true_eq_false, and_false, if_false]

theorem State.feed_of_no_frame {s : State} (none : s.nextFrame? = none) : s.feed = s := by
  rw [State.feed, none]
  exact ite_self s

/-! ### A payload is stored (R146) -/

theorem State.moverWrote_more {s : State} {h : HeldPayload} {rest : List HeldPayload} {n : Nat}
    (stores : s.mover.stores = h :: rest) (buffer : s.mover.buffer = none) (free : s.moverBusy = false)
    (more : h.done + n < h.payload.length) :
    s.moverWrote n = State.askPiece
      { s with mover := { s.mover with working := s.workingAfter n, stores := { h with done := h.done + n } :: rest } }
      (h.pos + (h.done + n)) (h.payload.drop (h.done + n)).length
      fun a k => .write a ((h.payload.drop (h.done + n)).take k) := by
  have asks : s.moverWrote n = State.moverAsk { s with mover := { s.mover with
      working := s.workingAfter n, stores := { h with done := h.done + n } :: rest } } := by
    rw [State.moverWrote, stores]
    dsimp only
    rw [State.advance_eq]
    exact if_pos more
  rw [asks]
  exact State.moverAsk_write (h := { h with done := h.done + n }) (by exact free) (by exact buffer) rfl

/-- The progress of the Engine's exchange, in the terms of the claims (R15, R148). -/
theorem State.progressTo_eq (s : State) (p : Nat) (c : Cursor) :
    s.progressTo p c = { s with
      sched := if s.engine.role = .target then s.sched else s.sched.put s.engine.tag.slot { s.ownSlot with
        progress := max s.ownSlot.progress p, cursor := if s.ownSlot.form = .list then c else s.ownSlot.cursor }
      service := if s.engine.role = .initiator then s.service else { s.service with
        entries := s.service.entries.map fun e =>
          if e.key = s.engine.key then { e with progress := max e.progress p } else e } } := by
  unfold State.progressTo
  cases s.engine.role <;> rfl

/-- The station after the whole of a held payload was stored (R85, R146). -/
def State.afterStore (s : State) (h : HeldPayload) (w : Cursor) : State :=
  { s with
    engine := { s.engine with writtenSeq := some h.seq, ackDue := true }
    sched := if s.engine.role = .target then s.sched else s.sched.put s.engine.tag.slot { s.ownSlot with
      progress := max s.ownSlot.progress (h.pos + h.payload.length)
      cursor := if s.ownSlot.form = .list then w else s.ownSlot.cursor }
    service := if s.engine.role = .initiator then s.service else { s.service with
      entries := s.service.entries.map fun e =>
        if e.key = s.engine.key then { e with progress := max e.progress (h.pos + h.payload.length) } else e } }

theorem State.moverWrote_last {s : State} {h : HeldPayload} {rest : List HeldPayload} {n : Nat}
    (stores : s.mover.stores = h :: rest) (last : h.done + n = h.payload.length) :
    s.moverWrote n = State.moverAsk { s.afterStore h (s.workingAfter n) with
      mover := { s.mover with working := s.workingAfter n, stores := rest } } := by
  have stored : s.moverWrote n =
      State.storeEnded { s with mover := { s.mover with working := s.workingAfter n } } h := by
    rw [State.moverWrote, stores]
    dsimp only
    rw [State.advance_eq]
    exact if_neg (by omega)
  rw [stored, State.storeEnded]
  refine congrArg State.moverAsk ((State.progressTo_eq ..).trans ?_)
  have tail : s.mover.stores.tail = rest := by rw [stores]; rfl
  rw [← tail]
  rfl

/-- A slot of the exchange keeps its local side when its progress rises. -/
theorem State.ownSlot_afterStore (s : State) (h : HeldPayload) (w : Cursor) :
    (s.afterStore h w).ownSlot.form = s.ownSlot.form ∧ (s.afterStore h w).ownSlot.segments = s.ownSlot.segments ∧
      (s.afterStore h w).ownSlot.localAddr = s.ownSlot.localAddr := by
  have own : (s.afterStore h w).ownSlot = (s.afterStore h w).sched.slot s.engine.tag.slot := rfl
  rw [own]
  unfold State.afterStore
  dsimp only
  split
  · exact ⟨rfl, rfl, rfl⟩
  · rw [Scheduler.slot_put, if_pos rfl]
    exact ⟨rfl, rfl, rfl⟩

theorem State.placeOf_afterStore (s : State) (h : HeldPayload) (w : Cursor) (p : Nat)
    (none : s.usesList = false) : (s.afterStore h w).placeOf p = s.placeOf p := by
  obtain ⟨form, -, address⟩ := s.ownSlot_afterStore h w
  have role' : (s.afterStore h w).engine.role = s.engine.role := rfl
  cases role : s.engine.role with
  | initiator =>
    have direct : s.ownSlot.form ≠ .list := fun list =>
      Bool.false_ne_true (none.symm.trans (s.usesList_iff.mpr ⟨role, list⟩))
    simp only [State.placeOf, role', role, form, direct, if_false, address]
  | target =>
    have service : (s.afterStore h w).service = s.service.edit s.engine.key
        fun e => { e with progress := max e.progress (h.pos + h.payload.length) } :=
      if_neg (by rw [role]; decide)
    have entry : (s.afterStore h w).entry? s.engine.key = (s.entry? s.engine.key).map
        fun e => { e with progress := max e.progress (h.pos + h.payload.length) } :=
      (congrArg (Service.entry? · s.engine.key) service).trans (Service.entry?_edit fun _ => rfl)
    have windows (x : WindowId) : (s.afterStore h w).window x = s.window x :=
      (congrArg (Service.window · x) service).trans rfl
    have key : (s.afterStore h w).engine.key = s.engine.key := rfl
    simp only [State.placeOf, role', role, key, entry, windows]
    cases s.entry? s.engine.key <;> rfl

theorem State.samePlaces_afterStore (s : State) (h : HeldPayload) (w : Cursor) : s.SamePlaces (s.afterStore h w) := by
  obtain ⟨form, segments, address⟩ := s.ownSlot_afterStore h w
  refine ⟨?_, segments, address, fun none p => s.placeOf_afterStore h w p none⟩
  simp only [State.usesList, form]
  rfl

/-- Progress changes nothing of what keeps a station from being drained. -/
theorem State.not_drained_afterStore {s : State} (undrained : s.drained = false) (h : HeldPayload) (w : Cursor) :
    (s.afterStore h w).drained = false := by
  refine State.not_drained_of undrained rfl (fun i free => ?_) (fun empty => ?_) id
  · have slot : (s.afterStore h w).slot i = (s.afterStore h w).sched.slot i := rfl
    rw [slot] at free
    unfold State.afterStore at free
    dsimp only at free
    split at free
    · exact free
    · rw [Scheduler.slot_put] at free
      split at free
      · next own => exact own ▸ free
      · exact free
  · unfold State.afterStore at empty
    dsimp only at empty
    split at empty
    · exact empty
    · exact List.map_eq_nil_iff.mp empty

/-! ### A segment entry is fetched (R147) -/

/-- What asking leaves of the mover and the Engine. -/
theorem State.moverAsk_keeps (s : State) :
    s.moverAsk.mover.cache = s.mover.cache ∧ s.moverAsk.engine.phase = s.engine.phase := by
  have walker (t : State) : t.walkerAsk.mover.cache = t.mover.cache ∧ t.walkerAsk.engine.phase = t.engine.phase := by
    unfold State.walkerAsk
    dsimp only
    (repeat' split) <;> simp [State.moverFault]
  have piece (p n : Nat) (make : Nat → Nat → Transaction) :
      (s.askPiece p n make).mover.cache = s.mover.cache ∧ (s.askPiece p n make).engine.phase = s.engine.phase := by
    rw [State.askPiece, State.cursorSettled_eq]
    split
    · split <;> simp [State.moverFault, State.cursorSettled]
    · exact walker _
    · simp [State.moverFault, State.cursorSettled]
  unfold State.moverAsk
  split
  · exact ⟨rfl, rfl⟩
  · split
    · split
      · exact piece ..
      · exact ⟨rfl, rfl⟩
    · exact piece ..
    · exact ⟨rfl, rfl⟩

/-- The mover's request changes the Engine, the mover and the port alone. -/
theorem State.moverAsk_eq (s : State) :
    s.moverAsk = { s with engine := s.moverAsk.engine, mover := s.moverAsk.mover, port := s.moverAsk.port } := by
  obtain ⟨station, bus, arb, sched, service, notes, triggers, loader, writer, copier, host, mem, pending⟩ := s.moverAsk_frame
  generalize s.moverAsk = t at *
  obtain ⟨⟩ := t
  subst station bus arb sched service notes triggers loader writer copier host mem pending
  rfl

theorem State.walkerRead_whole {s : State} {f : Fetch} {data : List Byte} (fetch : s.mover.fetch = some f)
    (whole : f.bytes.length + data.length = 8) :
    s.walkerRead data = State.moverAsk { s with mover := { s.mover with
      fetch := none, cache := some (parseSegment f.index (f.bytes ++ data)) } } := by
  have length : ¬ (f.bytes ++ data).length < Config.segmentBytes := by
    rw [List.length_append, whole]
    exact lt_irrefl _
  rw [State.walkerRead, fetch]
  exact if_neg length

/-- Settles O58: the ends of reads, stores and fetches; a piece that is asked for is `piece_asked`. -/
theorem moverEnds : Obligations.MoverEnds := by
  intro s orphans undrained
  have busy (at' : s.mover.fetch = none ∧ s.engine.abortDue = none ∧ ∀ w ∈ s.port.waiting, w.1 ≠ .mover ∧ w.1 ≠ .walker)
      (t : Transaction) : (s.settling t).moverBusy = false :=
    State.moverBusy_eq_false (by cases t <;> exact at'.1) (by exact at'.2.2) fun g c _ => s.port.settle_ended g c
  refine ⟨fun a n data b current buffer length => ⟨fun whole keep => ?_, fun whole discard stopped new => ?_,
    fun more free => ?_⟩, fun a bytes h rest current stores buffer => ⟨fun more free => ?_, fun whole none => ?_,
    fun whole free g tail next start => ?_⟩, fun a n data f current fetch length whole => ?_⟩
  · subst length
    have final : s.lastOfPayload = true := by
      simp only [State.lastOfPayload, State.liveTransaction?_running orphans current, buffer]
      exact decide_eq_true whole.ge
    refine next_congr ((if_pos final).trans ((State.transactionEnds_running orphans current (decide_eq_true rfl)
      ((State.moverRead_whole (by exact buffer) whole).trans (if_neg (by rw [keep]; decide)))).trans ?_))
    exact State.drainTest_eq_of_left undrained rfl rfl (fun _ => id) id id
  · subst length
    have final : s.lastOfPayload = true := by
      simp only [State.lastOfPayload, State.liveTransaction?_running orphans current, buffer]
      exact decide_eq_true whole.ge
    refine next_congr ((if_pos final).trans ((State.transactionEnds_running orphans current (decide_eq_true rfl)
      ((State.moverRead_whole (by exact buffer) whole).trans ((if_pos discard).trans
        (State.feed_of_no_frame (State.nextFrame?_of_stopped (by exact stopped) (by exact new)))))).trans ?_))
    exact State.drainTest_eq_of_left undrained rfl rfl (fun _ => id) id id
  · subst length
    exact State.piece_asked current undrained free.2.1 free.1 (.refl s) (next_congr
      (State.transactionEnds_running orphans current (decide_eq_true rfl)
        (State.moverRead_more (by exact buffer) (busy free _) more)))
  · let r : State := { s with mem := Memory.write s.mem a bytes }
    let m : Mover := { s.mover with
      working := s.workingAfter bytes.length, stores := { h with done := h.done + bytes.length } :: rest }
    have ends : exec (.localTransactionEnds []) s = .next (State.askPiece { r with mover := m, port := s.port.settle }
        (h.pos + (h.done + bytes.length)) (h.payload.drop (h.done + bytes.length)).length
        fun z n => .write z ((h.payload.drop (h.done + bytes.length)).take n)).grant.drainTest :=
      next_congr (State.transactionEnds_running (data := []) orphans current rfl
        (State.moverWrote_more (s := s.settling (.write a bytes)) stores buffer (busy free _) more))
    have asked := State.piece_asked (r := r) (m := m) current undrained free.2.1 free.1
      ⟨rfl, rfl, rfl, fun _ _ => rfl⟩ ends
    exact asked
  · let r : State := { s.afterStore h (s.workingAfter bytes.length) with mem := Memory.write s.mem a bytes }
    have final : s.lastOfStore = true := by
      simp only [State.lastOfStore, State.liveTransaction?_running orphans current, stores]
      exact decide_eq_true whole.ge
    subst none
    have stored : State.requesterGoesOn (s.settling (.write a bytes)) ⟨.mover, .write a bytes, .running⟩ [] =
        { r with mover := { s.mover with working := s.workingAfter bytes.length, stores := [] }, port := s.port.settle } :=
      (State.moverWrote_last (s := s.settling (.write a bytes)) stores whole).trans
        (State.moverAsk_nothing (by exact buffer) rfl)
    refine next_congr ((if_pos final).trans ((State.transactionEnds_running orphans current rfl stored).trans ?_))
    exact State.drainTest_eq_of_left (s := r) (State.not_drained_afterStore undrained h _) rfl rfl (fun _ => id) id id
  · let r : State := { s.afterStore h (s.workingAfter bytes.length) with mem := Memory.write s.mem a bytes }
    let m : Mover := { s.mover with working := s.workingAfter bytes.length, stores := rest }
    have final : s.lastOfStore = true := by
      simp only [State.lastOfStore, State.liveTransaction?_running orphans current, stores]
      exact decide_eq_true whole.ge
    have stored : State.requesterGoesOn (s.settling (.write a bytes)) ⟨.mover, .write a bytes, .running⟩ [] =
        State.askPiece { r with mover := m, port := s.port.settle } g.pos g.payload.length
          fun z n => .write z (g.payload.take n) := by
      refine (State.moverWrote_last (s := s.settling (.write a bytes)) stores whole).trans ?_
      refine (State.moverAsk_write (h := g) (rest := tail) (by exact busy free (.write a bytes)) (by exact buffer)
        (by exact next)).trans ?_
      rw [start]
      rfl
    have same : s.SamePlaces r := by
      obtain ⟨list, segments, address, place⟩ := s.samePlaces_afterStore h (s.workingAfter bytes.length)
      exact ⟨list, segments, address, place⟩
    have ends : exec .payloadStoreEnds s = .next (State.askPiece { r with mover := m, port := s.port.settle } g.pos
        g.payload.length fun z n => .write z (g.payload.take n)).grant.drainTest :=
      next_congr ((if_pos final).trans (State.transactionEnds_running orphans current rfl stored))
    have asked := State.piece_asked (r := r) (m := m) current (State.not_drained_afterStore undrained h _) free.2.1 free.1
      same ends
    exact asked
  · have final : s.lastOfFetch = true := by
      simp only [State.lastOfFetch, State.liveTransaction?_running orphans current, fetch]
      exact decide_eq_true whole.ge
    subst length
    let before : State := { s.settling (.read a data.length) with mover := { s.mover with
      fetch := none, cache := some (parseSegment f.index (f.bytes ++ data)) } }
    have read : (s.settling (.read a data.length)).walkerRead data = before.moverAsk :=
      State.walkerRead_whole (by exact fetch) whole
    obtain ⟨cache, phase⟩ := before.moverAsk_keeps
    have same : before.moverAsk.grant = { s with
        engine := before.moverAsk.engine, mover := before.moverAsk.mover, port := before.moverAsk.port.grantNext } := by
      rw [before.moverAsk_eq]
      rfl
    refine ⟨before.moverAsk.grant, next_congr ((if_pos final).trans ((State.transactionEnds_running orphans current
      (decide_eq_true rfl) read).trans ?_)), same, cache⟩
    have blocks := congrArg (fun t : State => (t.station, t.sched, t.service)) same
    exact State.drainTest_of_not_drained (State.not_drained_of undrained (by exact congrArg (·.1.state) blocks)
      (fun i free => by
        have slot : before.moverAsk.grant.slot i = s.slot i := State.slot_of_sched (congrArg (·.2.1) blocks) i
        exact slot ▸ free)
      (fun empty => by
        have entries : before.moverAsk.grant.service.entries = s.service.entries := congrArg (·.2.2.entries) blocks
        exact entries ▸ empty)
      (fun idle => by exact phase ▸ idle))

end Sys2Proof.Machine
end

section
/-! Several slots that end in one happening, and the bus reset (2.10, R25, R61). -/

namespace Sys2Proof.Machine

/-! ### Slots that end one after the other (R24 to R27) -/

/-- The Exchange Table after the slots of a list ended in its order, none of them DONE. -/
def Scheduler.endAll (c : Scheduler) (o : ExchangeOutcome) (l : List SlotId) : Scheduler :=
  l.foldl (fun c i => c.ended i o) c

theorem Scheduler.slot_endAll {o : ExchangeOutcome} {l : List SlotId} :
    ∀ {c : Scheduler}, l.Nodup → ∀ k, (c.endAll o l).slot k = if k ∈ l then (c.slot k).ended o else c.slot k := by
  induction l with
  | nil => intro c _ k; simp [Scheduler.endAll]
  | cons i l ih =>
    intro c nodup k
    obtain ⟨notIn, nodup⟩ := List.nodup_cons.mp nodup
    have rest : (c.endAll o (i :: l)).slot k = _ := ih (c := c.ended i o) nodup k
    rw [rest, Scheduler.slot_ended]
    by_cases own : k = i
    · subst own
      simp [notIn]
    · simp [own]

theorem Scheduler.finished_endAll {o : ExchangeOutcome} {l : List SlotId} :
    ∀ {c : Scheduler}, (c.endAll o l).finished = c.finished ++ l := by
  induction l with
  | nil => intro c; simp [Scheduler.endAll]
  | cons i l ih =>
    intro c
    have rest : (c.endAll o (i :: l)).finished = _ := ih (c := c.ended i o)
    rw [rest]
    simp [Scheduler.ended]

theorem Scheduler.ready_endAll {o : ExchangeOutcome} {l : List SlotId} :
    ∀ {c : Scheduler}, (c.endAll o l).ready = c.ready.diff l := by
  induction l with
  | nil => intro c; rfl
  | cons i l ih =>
    intro c
    have rest : (c.endAll o (i :: l)).ready = _ := ih (c := c.ended i o)
    rw [rest, List.diff_cons]
    rfl

/-- No slot of the list waits in the ready list, so none leaves it. -/
theorem Scheduler.ready_endAll_of_disjoint {c : Scheduler} {o : ExchangeOutcome} {l : List SlotId} (nodup : c.ready.Nodup)
    (apart : ∀ i ∈ l, i ∉ c.ready) : (c.endAll o l).ready = c.ready := by
  rw [Scheduler.ready_endAll, nodup.sdiff_eq_filter]
  exact List.filter_eq_self.mpr fun i mem => by simpa using fun inList => apart i inList mem

/-- Every QUEUED slot of the list leaves the ready list. -/
theorem Scheduler.ready_endAll_self {c : Scheduler} {o : ExchangeOutcome} (nodup : c.ready.Nodup) :
    (c.endAll o c.ready).ready = [] := by
  rw [Scheduler.ready_endAll, nodup.sdiff_eq_filter]
  exact List.filter_eq_nil_iff.mpr fun i mem => by simpa using mem

theorem Scheduler.endAll_append (c : Scheduler) (o : ExchangeOutcome) (l m : List SlotId) :
    (c.endAll o l).endAll o m = c.endAll o (l ++ m) := List.foldl_append.symm

theorem State.slot_finishSlot_of_ne {s : State} {i k : SlotId} {o : ExchangeOutcome} (other : k ≠ i) :
    (s.finishSlot i o).slot k = s.slot k := by
  obtain same | ⟨-, ended⟩ := s.finishSlot_cases i o
  · rw [same]
  · rw [ended]
    exact (Scheduler.slot_put s.sched i k _).trans (if_neg other)

theorem State.foldl_finishSlot {o : ExchangeOutcome} (undone : o ≠ .done) {l : List SlotId} :
    ∀ {s : State}, l.Nodup → (∀ i ∈ l, (s.slot i).state.live = true) →
      l.foldl (fun s i => s.finishSlot i o) s = { s with sched := s.sched.endAll o l } := by
  induction l with
  | nil => intro s _ _; rfl
  | cons i l ih =>
    intro s nodup live
    obtain ⟨notIn, nodup⟩ := List.nodup_cons.mp nodup
    rw [List.foldl_cons, State.finishSlot_of_live (live i List.mem_cons_self) undone]
    refine ih nodup fun k mem => ?_
    have other : k ≠ i := fun same => notIn (same ▸ mem)
    have slot : ({ s with sched := s.sched.ended i o } : State).slot k = s.slot k :=
      (Scheduler.slot_ended ..).trans (if_neg other)
    rw [slot]
    exact live k (List.mem_cons_of_mem _ mem)

/-- A fold over slots that looks at each one as it comes is a fold over those that it picks. -/
theorem State.foldl_picked {o : ExchangeOutcome} {p : Slot → Bool} {l : List SlotId} :
    ∀ {s : State}, l.Nodup → l.foldl (fun s i => if p (s.slot i) then s.finishSlot i o else s) s =
      (l.filter fun i => p (s.slot i)).foldl (fun s i => s.finishSlot i o) s := by
  induction l with
  | nil => intro s _; rfl
  | cons i l ih =>
    intro s nodup
    obtain ⟨notIn, nodup⟩ := List.nodup_cons.mp nodup
    rw [List.foldl_cons, List.filter_cons]
    by_cases picks : p (s.slot i) = true
    · rw [if_pos picks, if_pos picks, List.foldl_cons, ih nodup]
      congr 1
      refine List.filter_congr fun k mem => ?_
      have other : k ≠ i := fun same => notIn (same ▸ mem)
      rw [State.slot_finishSlot_of_ne other]
    · rw [if_neg picks, if_neg picks, ih nodup]

/-- The slots that a test picks end in slot order. -/
theorem State.finishWhere_eq (s : State) {p : Slot → Bool} {o : ExchangeOutcome} (undone : o ≠ .done)
    (live : ∀ x, p x = true → x.state.live = true) :
    s.finishWhere p o = { s with sched := s.sched.endAll o (slotIds.filter fun i => p (s.slot i)) } := by
  have nodup : slotIds.Nodup := by decide
  refine (State.foldl_picked nodup).trans (State.foldl_finishSlot undone (nodup.filter _) fun i mem => ?_)
  exact live _ (List.mem_filter.mp mem).2

theorem mem_filter_slotIds {p : SlotId → Bool} {i : SlotId} : i ∈ slotIds.filter p ↔ p i = true := by
  simp [mem_slotIds]

/-! ### A bus reset (R61) -/

/-- Every HOLDING window becomes HELD, one after the other; WINDOW_HELD is raised when at least one changes (R47). -/
theorem State.foldl_holdAll {l : List WindowId} :
    ∀ {s : State}, l.Nodup → ∃ (ws : Vector Window 8) (h : HostInterface),
      l.foldl (fun s w => if (s.window w).hold = .holding then (s.setHold w .held).raise .windowHeld else s) s =
        { s with service := { s.service with windows := ws }, host := h } ∧
      (∀ w : WindowId, ws[w] = if w ∈ l ∧ (s.window w).hold = .holding then { s.window w with hold := .held } else s.window w) ∧
      h = { s.host with event := h.event } ∧
      ∀ e : Event, ({ s with host := h } : State).flag e =
        (s.flag e || (e = .windowHeld && l.any fun w => (s.window w).hold = .holding)) := by
  induction l with
  | nil =>
    intro s _
    exact ⟨s.service.windows, s.host, rfl, fun w => by simp [State.window], rfl, fun e => by simp⟩
  | cons v l ih =>
    intro s nodup
    obtain ⟨notIn, nodup⟩ := List.nodup_cons.mp nodup
    rw [List.foldl_cons]
    by_cases holding : (s.window v).hold = .holding
    · obtain ⟨ws, h, fold, windows, same, flags⟩ := ih (s := (s.setHold v .held).raise .windowHeld) nodup
      have window (w : WindowId) : ((s.setHold v .held).raise .windowHeld).window w =
          if w = v then { s.window v with hold := .held } else s.window w := State.window_setHold ..
      rw [if_pos holding]
      refine ⟨ws, h, fold.trans rfl, fun w => ?_, same.trans rfl, fun e => (flags e).trans ?_⟩
      · rw [windows w, window w]
        by_cases own : w = v
        · subst own
          simp [notIn, holding]
        · simp [own]
      · have others : (l.any fun w => decide ((((s.setHold v .held).raise .windowHeld).window w).hold = .holding)) =
            l.any fun w => decide ((s.window w).hold = .holding) := by
          rw [Bool.eq_iff_iff, List.any_eq_true, List.any_eq_true]
          refine exists_congr fun w => and_congr_right fun mem => ?_
          have other : w ≠ v := fun same => notIn (same ▸ mem)
          rw [window w, if_neg other]
        have raised : ((s.setHold v .held).raise .windowHeld).flag e = (s.flag e || decide (e = .windowHeld)) :=
          State.flag_raise ..
        rw [others, raised, List.any_cons, decide_eq_true holding, Bool.true_or, Bool.or_assoc]
        cases decide (e = .windowHeld) <;> rfl
    · obtain ⟨ws, h, fold, windows, same, flags⟩ := ih (s := s) nodup
      rw [if_neg holding]
      refine ⟨ws, h, fold, fun w => ?_, same, fun e => (flags e).trans ?_⟩
      · rw [windows w]
        by_cases own : w = v
        · subst own
          simp [notIn, holding]
        · simp [own]
      · rw [List.any_cons, decide_eq_false holding, Bool.false_or]

/-- The host after the tables were emptied (R47, R49). -/
theorem State.emptyTable_eq (s : State) :
    s.emptyTable = { s with
      service := { s.service with entries := [], queue := [] }
      host := if s.service.entries ≠ [] then s.host.raised .serviceDropped else s.host } := by
  unfold State.emptyTable State.raiseIf
  cases s.service.entries <;> rfl

theorem State.flag_raised_if (s : State) (p : Prop) [Decidable p] (d e : Event) :
    ({ s with host := if p then s.host.raised d else s.host } : State).flag e = (s.flag e || (decide (e = d) && decide p)) := by
  by_cases h : p
  · rw [if_pos h, decide_eq_true h, Bool.and_true]
    exact s.flag_raise d e
  · rw [if_neg h, decide_eq_false h, Bool.and_false, Bool.or_false]

/-- Settles O30: the slots by `finishWhere_eq`, the windows by `foldl_holdAll`. -/
theorem busResetTaken : Obligations.BusResetTaken := by
  intro s
  refine ⟨fun asserted => next_congr (if_pos asserted), fun clear lists => ?_⟩
  obtain ⟨readyOnce, -, inReady, -⟩ := lists
  intro ends
  let quiet : State := { s.engineIdle with bus := s.bus.reset, arb := .clear }
  let emptied : State := { quiet with
    sched := s.sched.endAll .busReset (slotIds.filter ends)
    service := { s.service with entries := [], queue := [] }
    host := if s.service.entries ≠ [] then s.host.raised .serviceDropped else s.host }
  have slots : quiet.busResetSlots = { quiet with sched := s.sched.endAll .busReset (slotIds.filter ends) } :=
    quiet.finishWhere_eq (by decide) fun x picked => by
      simp only [Bool.or_eq_true, decide_eq_true_eq] at picked
      rcases picked with (h | h) | h <;> rw [h] <;> rfl
  have empties : quiet.busResetSlots.emptyTable = emptied := by
    rw [slots, State.emptyTable_eq]
    rfl
  obtain ⟨ws, h, fold, windows, same, flags⟩ := State.foldl_holdAll (l := windowIds) (s := emptied) (by decide)
  have holds : emptied.holdAll = { emptied with service := { emptied.service with windows := ws }, host := h } := fold
  have picked (i : SlotId) : i ∈ slotIds.filter ends ↔ ends i = true := mem_filter_slotIds
  let t : State := { emptied with
    station := { s.station with
      peers := Vector.replicate 16 ⟨.unknown, 0⟩
      rollcallDue := if s.station.state = .joining then true else s.station.rollcallDue
      rollcallTimer := if s.station.state = .joining then none else s.station.rollcallTimer }
    service := { emptied.service with windows := ws }
    host := h.raised .busResetSeen }
  have reset : s.busReset = t.drainTest := by
    have rolls : (State.forgetPeers { emptied with service := { emptied.service with windows := ws }, host := h }).restartRollCall =
        { t with host := h } := by
      by_cases joining : s.station.state = .joining
      · exact (if_pos (by exact joining)).trans (by simp only [t, if_pos joining]; rfl)
      · exact (if_neg (by exact joining)).trans (by simp only [t, if_neg joining]; rfl)
    have resets : s.busReset =
        ((quiet.busResetSlots.emptyTable.holdAll.forgetPeers.restartRollCall).raise .busResetSeen).drainTest := rfl
    rw [resets, empties, holds, rolls]
    rfl
  refine ⟨t, next_congr ((if_neg (by rw [clear]; decide)).trans reset), fun i => ?_, ?_, Scheduler.finished_endAll, rfl, rfl,
    fun w => ?_, rfl, ?_, fun e => ?_⟩
  · refine (Scheduler.slot_endAll ((by decide : slotIds.Nodup).filter _) i).trans ?_
    by_cases h : ends i = true
    · rw [if_pos h, if_pos ((picked i).mpr h)]
      rfl
    · rw [if_neg h, if_neg (fun mem => h ((picked i).mp mem))]
      rfl
  · refine Scheduler.ready_endAll_of_disjoint readyOnce fun i mem waits => ?_
    have queued := (inReady i).mp waits
    have ended := (picked i).mp mem
    simp [ends, queued] at ended
  · refine (windows w).trans ?_
    have all : w ∈ windowIds := by revert w; decide
    by_cases holding : (s.window w).hold = .holding
    · rw [if_pos ⟨all, by exact holding⟩, if_pos holding]
      rfl
    · rw [if_neg fun both => holding both.2, if_neg holding]
      rfl
  · have kept : h = { s.host with event := h.event } := by
      refine same.trans ?_
      change ({ (if s.service.entries ≠ [] then s.host.raised .serviceDropped else s.host) with event := h.event } :
        HostInterface) = _
      split <;> rfl
    exact congrArg (HostInterface.raised · .busResetSeen) kept
  · have raised : t.flag e = (({ emptied with host := h } : State).flag e || decide (e = .busResetSeen)) :=
      State.flag_raise ({ emptied with host := h } : State) .busResetSeen e
    have dropped : emptied.flag e = (s.flag e || (decide (e = .serviceDropped) && decide (s.service.entries ≠ []))) :=
      s.flag_raised_if _ _ _
    rw [raised, flags e, dropped]
    simp only [Bool.or_assoc, Bool.or_comm, Bool.or_left_comm]
    rfl

end Sys2Proof.Machine
end

section
/-! Falling lines, the view of the bus from round to round, and the gaps (files 03, 04 and 08). -/

namespace Sys2Proof.Machine

/-! ### The levels of the trigger lines (R130) -/

theorem State.getLsbD_setLevel (s : State) (l m : TriggerLine) (high : Bool) :
    (s.setLevel l high).triggers.levels.getLsbD m.val = if m = l then high else s.triggers.levels.getLsbD m.val := by
  have bit : (1#4 <<< l.val).getLsbD m.val = decide (m = l) := by revert l m; decide
  have inside : m.val < 4 := m.isLt
  cases high
  · change (s.triggers.levels &&& ~~~(1#4 <<< l.val)).getLsbD m.val = _
    rw [BitVec.getLsbD_and, BitVec.getLsbD_not, bit]
    by_cases same : m = l <;> simp [same, inside]
  · change (s.triggers.levels ||| 1#4 <<< l.val).getLsbD m.val = _
    rw [BitVec.getLsbD_or, bit]
    by_cases same : m = l <;> simp [same]

/-! ### A round that begins (R54) -/

/-- A station that contends is in a round from then on. -/
theorem State.roundEntry?_of_contend {s : State} (free : s.bus.view = .free) (same : s.contend = s) :
    s.roundEntry? = none := by
  cases picked : s.roundEntry? with
  | none => rfl
  | some pick =>
    have entered : s.contend = pick.1.enterRound pick.2 := by rw [State.contend, picked]
    have view := congrArg (·.bus.view) (entered.symm.trans same)
    exact absurd (view.trans free) (by simp [State.enterRound])

theorem State.roundBegins_of_free {s : State} (free : s.bus.view = .free) :
    s.roundBegins = match s.roundEntry? with
      | some (t, w) => t.enterRound w
      | none => s.roundOpens.answeringMeetsRound :=
  (if_pos free).trans (by cases s.roundEntry? <;> rfl)

/-- A round begins for a station that answers no connection and does not contend: only its view and its abstention change. -/
theorem State.answeringMeetsRound_of_not_answering {s : State}
    (other : ¬ (s.engine.phase ≠ .idle ∧ s.engine.busRole = .answering)) :
    s.answeringMeetsRound = s.drainTest := by
  have ends : s.answeringEnds = s := if_neg other
  rw [State.answeringMeetsRound, if_neg other, ends]

theorem State.not_answering {s : State} (other : s.engine.phase = .idle ∨ s.engine.busRole = .holder) :
    ¬ (s.engine.phase ≠ .idle ∧ s.engine.busRole = .answering) :=
  fun ⟨isOpen, answering⟩ => other.elim isOpen fun holder => nomatch holder.symm.trans answering

/-! ### The turn gap (R53) -/

theorem State.mayDrive_iff (s : State) :
    s.mayDrive = true ↔ s.bus.driving = none ∧ (s.bus.turn = .mine ∨ s.bus.turn = .either) ∧
      (s.bus.view = .held ∨ s.bus.view = .free) := by
  simp [State.mayDrive, and_assoc]

theorem State.mayDrive_either {s : State} (quiet : s.bus.driving = none) (turn : s.bus.turn = .either)
    (isOpen : s.bus.view = .held ∨ s.bus.view = .free) : s.mayDrive = true :=
  s.mayDrive_iff.mpr ⟨quiet, .inr turn, isOpen⟩

/-- A station that may not drive begins no frame. -/
theorem State.pump_of_not_mayDrive {s : State} (not : ¬ s.mayDrive = true) : s.pump = s := by
  rcases s.pump_cases with same | ⟨_, _, _, may, _⟩ | ⟨_, _, _, _, _, may, _⟩
  · exact same
  · exact absurd may not
  · exact absurd may not

theorem State.pump_first {s : State} {f : Frame} {rest : List Frame} (outbox : s.bus.outbox = f :: rest)
    (may : s.mayDrive = true) (free : f.body.isRollCall = true ∨ s.abortCause? = none) :
    s.pump = { s with bus := { s.bus with driving := some f, outbox := rest } } := by
  simp only [State.pump, outbox]
  exact if_pos ⟨may, free⟩

theorem State.pump_blocked {s : State} {f : Frame} {rest : List Frame} (outbox : s.bus.outbox = f :: rest)
    (connection : f.body.isRollCall = false) (due : s.abortCause? ≠ none) : s.pump = s := by
  simp only [State.pump, outbox]
  exact if_neg fun ⟨_, free⟩ => free.elim (fun roll => Bool.false_ne_true (connection.symm.trans roll)) due

/-- With no frame waiting the closing frame that is due begins. -/
theorem State.pump_empty {s : State} (outbox : s.bus.outbox = []) (may : s.mayDrive = true) :
    s.pump = { s with bus := { s.bus with driving := s.closingDue? } } := by
  have quiet : s.bus.driving = none := (s.mayDrive_iff.mp may).1
  have pump : s.pump = s.beginClosing := by simp only [State.pump, outbox]
  rw [pump, State.beginClosing, State.closingDue?]
  cases closing : s.engine.closing with
  | none =>
    rw [Option.map_none, ite_self, ← quiet]
  | some c =>
    simp only [may, true_and, Option.map_some]
    split
    · rfl
    · rw [← quiet]

/-- Settles O31: each happening moves the view from the view it needs, and the turn gap is the pump. -/
theorem linesGapsAndView : Obligations.LinesGapsAndView := by
  refine ⟨fun s => ⟨fun l => ⟨s.setLevel l false, rfl, rfl, fun m => ?_⟩, rfl, fun line mine => ?_, fun may => ?_⟩,
    fun s other undrained => ⟨fun free => ⟨fun moves => ?_, fun stays => ?_, ?_⟩, fun contending => ⟨?_, fun out => ⟨?_, ?_⟩,
      fun entered => ?_⟩, fun held released => ?_, fun notFree => ⟨?_, ?_⟩, fun notContending => ⟨?_, ?_, ?_⟩, fun not => ?_⟩,
    fun s => ⟨fun free isOpen => ?_, fun not => ?_, fun quiet turn => ⟨fun closed => ?_, fun isOpen empty => ?_,
      fun isOpen f rest outbox => ⟨fun may => ?_, fun connection due => ?_⟩⟩, fun not => ?_⟩⟩
  · rw [State.getLsbD_setLevel]
    by_cases same : m = l <;> simp [same]
  · refine next_congr ((if_pos ⟨line, mine⟩).trans ?_)
    by_cases view : s.bus.view = .reset
    · rw [if_pos view, if_pos view]
      exact (if_pos (by exact view)).trans rfl
    · rw [if_neg view, if_neg view]
      exact (if_neg (by exact view)).trans rfl
  · refine next_congr (if_neg fun both => ?_)
    rcases may with low | drives
    · exact Bool.false_ne_true (low.symm.trans both.1)
    · exact Bool.false_ne_true (both.2.symm.trans drives)
  · refine next_congr ?_
    rw [State.roundBegins_of_free free]
    cases picked : s.roundEntry? with
    | none => exact absurd (next_congr (by rw [State.contend, picked])) moves
    | some pick => rw [State.contend, picked]
  · refine next_congr ?_
    have same : s.contend = s := by injection stays
    rw [State.roundBegins_of_free free, State.roundEntry?_of_contend free same]
    refine (State.answeringMeetsRound_of_not_answering (by exact State.not_answering other)).trans ?_
    exact State.drainTest_eq_of_left undrained rfl rfl (fun _ => id) id id
  · have ends : s.answeringEnds = s := if_neg (State.not_answering other)
    refine next_congr ((if_pos free).trans ?_)
    rw [ends]
    exact State.drainTest_eq_of_left undrained rfl rfl (fun _ => id) id id
  · exact next_congr ((if_pos contending).trans rfl)
  · exact next_congr ((if_pos ⟨contending, out⟩).trans rfl)
  · exact next_congr (if_neg fun both => by simp [out] at both)
  · exact next_congr (if_neg fun both => by simp [both.2] at entered)
  · exact next_congr ((if_pos ⟨held, released⟩).trans rfl)
  · exact next_congr (if_neg notFree)
  · exact next_congr (if_neg notFree)
  · exact next_congr (if_neg fun both => notContending both.1)
  · exact next_congr (if_neg notContending)
  · exact next_congr (if_neg fun both => notContending both.1)
  · exact next_congr (if_neg fun both => not.elim (fun view => view both.1) fun line => Bool.false_ne_true (both.2.symm.trans line))
  · exact next_congr (if_pos ⟨free, isOpen⟩)
  · exact next_congr (if_neg fun both => not.elim (fun view => view both.1) fun gap => Bool.false_ne_true (gap.symm.trans both.2))
  · refine next_congr ((if_pos ⟨Option.isNone_iff_eq_none.mpr quiet, turn⟩).trans ?_)
    exact State.pump_of_not_mayDrive fun may => closed ((State.mayDrive_iff _).mp may).2.2
  · refine next_congr ((if_pos ⟨Option.isNone_iff_eq_none.mpr quiet, turn⟩).trans ?_)
    exact (State.pump_empty (by exact empty) (State.mayDrive_either (by exact quiet) (by rfl) (by exact isOpen))).trans rfl
  · refine next_congr ((if_pos ⟨Option.isNone_iff_eq_none.mpr quiet, turn⟩).trans ?_)
    exact (State.pump_first (by exact outbox) (State.mayDrive_either (by exact quiet) (by rfl) (by exact isOpen)) (by exact may)).trans rfl
  · refine next_congr ((if_pos ⟨Option.isNone_iff_eq_none.mpr quiet, turn⟩).trans ?_)
    exact State.pump_blocked (by exact outbox) connection due
  · refine next_congr (if_neg fun both => ?_)
    rcases not with drives | none | either
    · exact drives (Option.isNone_iff_eq_none.mp both.1)
    · exact both.2.elim (fun h => nomatch none.symm.trans h) fun h => nomatch none.symm.trans h
    · exact both.2.elim (fun h => nomatch either.symm.trans h) fun h => nomatch either.symm.trans h

end Sys2Proof.Machine
end

section
/-! A rising trigger edge (9.3). -/

namespace Sys2Proof.Machine

/-- The standing part names the line. -/
def Slot.onLine (x : Slot) (l : TriggerLine) : Bool := x.standing.any fun st => st.line = l

/-- A repetition starts when the line's edge finds the slot ARMED (R132). -/
def Slot.starts (x : Slot) (l : TriggerLine) : Bool := x.onLine l && x.state = .armed

/-- The edge finds the slot busy (R133). -/
def Slot.misses (x : Slot) (l : TriggerLine) : Bool := x.onLine l && x.missesEdge

theorem Slot.missesEdge_eq (x : Slot) : x.missesEdge = (x.state = .queued || x.state = .selected || x.state = .active ||
    x.state = .disconnected || (x.state = .finished && x.moreToCome)) := by
  unfold Slot.missesEdge
  cases x.state <;> simp

/-- The slot whose repetition an edge starts. -/
def Slot.triggered (x : Slot) (st : Standing) : Slot := { x.startRepetition with standing := some st.nextRepetition }

/-- The slot after an edge of the line, its peer SILENT or not (R132, R133). -/
def Slot.edged (x : Slot) (l : TriggerLine) (silent : Bool) : Slot :=
  match x.standing with
  | none => x
  | some st =>
    if st.line ≠ l then x
    else if x.state = .armed then
      if silent then (x.triggered st).ended .peerSilent else { x.triggered st with state := .queued }
    else if x.missesEdge then { x with standing := some st.miss }
    else x

theorem Slot.edged_of_idle {x : Slot} {l : TriggerLine} (idle : x.starts l = false) (free : x.misses l = false) (silent : Bool) :
    x.edged l silent = x := by
  unfold Slot.edged
  cases standing : x.standing with
  | none => rfl
  | some st =>
    dsimp only
    by_cases line : st.line = l
    · have armed : x.state ≠ .armed := by simpa [Slot.starts, Slot.onLine, standing, line] using idle
      have quiet : x.missesEdge = false := by simpa [Slot.misses, Slot.onLine, standing, line] using free
      rw [if_neg (not_not.mpr line), if_neg armed, quiet]
      rfl
    · exact if_pos line

theorem Slot.edged_of_misses {x : Slot} {l : TriggerLine} {st : Standing} (standing : x.standing = some st)
    (misses : x.misses l = true) (silent : Bool) : x.edged l silent = { x with standing := some st.miss } := by
  obtain ⟨line, busy⟩ : st.line = l ∧ x.missesEdge = true := by
    simpa [Slot.misses, Slot.onLine, standing] using misses
  have armed : x.state ≠ .armed := fun armed => by simp [Slot.missesEdge, armed] at busy
  simp only [Slot.edged, standing]
  rw [if_neg (not_not.mpr line), if_neg armed, if_pos busy]

theorem Slot.edged_of_starts {x : Slot} {l : TriggerLine} {st : Standing} (standing : x.standing = some st)
    (starts : x.starts l = true) (silent : Bool) : x.edged l silent =
      if silent then (x.triggered st).ended .peerSilent else { x.triggered st with state := .queued } := by
  obtain ⟨line, armed⟩ : st.line = l ∧ x.state = .armed := by
    simpa [Slot.starts, Slot.onLine, standing] using starts
  simp only [Slot.edged, standing]
  rw [if_neg (not_not.mpr line), if_pos armed]

/-- The peer of a slot is SILENT. -/
def State.silentPeer (s : State) (i : SlotId) : Bool := (s.peer (s.slot i).peer).state = .silent

/-- What an edge does at one slot. -/
theorem State.edgeSlot_eq {s : State} {l : TriggerLine} {i : SlotId} (notReady : (s.slot i).state = .armed → i ∉ s.sched.ready) :
    ∃ c : Scheduler, s.edgeSlot l i = { s with sched := c } ∧
      c.ready = s.sched.ready ++ (if (s.slot i).starts l && !s.silentPeer i then [i] else []) ∧
      c.finished = s.sched.finished ++ (if (s.slot i).starts l && s.silentPeer i then [i] else []) ∧
      ∀ k, c.slot k = if k = i then (s.slot i).edged l (s.silentPeer i) else s.slot k := by
  have stays (starts : (s.slot i).starts l = false) (edged : (s.slot i).edged l (s.silentPeer i) = s.slot i)
      (same : s.edgeSlot l i = s) : ∃ c : Scheduler, s.edgeSlot l i = { s with sched := c } ∧
        c.ready = s.sched.ready ++ (if (s.slot i).starts l && !s.silentPeer i then [i] else []) ∧
        c.finished = s.sched.finished ++ (if (s.slot i).starts l && s.silentPeer i then [i] else []) ∧
        ∀ k, c.slot k = if k = i then (s.slot i).edged l (s.silentPeer i) else s.slot k := by
    refine ⟨s.sched, same, by simp [starts], by simp [starts], fun k => ?_⟩
    split
    · next own => rw [own, edged]; rfl
    · rfl
  cases standing : (s.slot i).standing with
  | none =>
    exact stays (by simp [Slot.starts, Slot.onLine, standing]) (by simp only [Slot.edged, standing])
      (by simp only [State.edgeSlot, standing])
  | some st =>
    by_cases line : st.line = l
    · by_cases armed : (s.slot i).state = .armed
      · have starts : (s.slot i).starts l = true := by simp [Slot.starts, Slot.onLine, standing, line, armed]
        have edge : s.edgeSlot l i = s.edgeArmed i st := by
          simp only [State.edgeSlot, standing, line, ne_eq, not_true_eq_false, if_false, armed, if_true]
        have first : (s.setSlot i ((s.slot i).triggered st)).slot i = (s.slot i).triggered st := State.slot_setSlot_self ..
        have state : ((s.slot i).triggered st).state = .armed := armed
        have silent_iff : ((s.setSlot i ((s.slot i).triggered st)).peer
            ((s.setSlot i ((s.slot i).triggered st)).slot i).peer).state = .silent ↔ s.silentPeer i = true := by
          rw [first]
          exact decide_eq_true_iff.symm
        by_cases silent : s.silentPeer i = true
        · refine ⟨(s.sched.put i ((s.slot i).triggered st)).ended i .peerSilent, ?_, ?_, ?_, fun k => ?_⟩
          · rw [edge]
            refine (if_pos (silent_iff.mpr silent)).trans ?_
            exact State.finishSlot_of_live (s := s.setSlot i ((s.slot i).triggered st))
              (by rw [first, state]; rfl) (by decide)
          · rw [starts, silent]
            refine (List.erase_of_not_mem ?_).trans (List.append_nil _).symm
            exact notReady armed
          · rw [starts, silent]
            rfl
          · rw [Scheduler.slot_ended, Scheduler.slot_put, if_pos rfl, Scheduler.slot_put]
            simp only [Slot.edged, standing, line, ne_eq, not_true_eq_false, if_false, armed, silent, if_true]
            split <;> rfl
        · refine ⟨s.sched.queued i ((s.slot i).triggered st), ?_, ?_, ?_, fun k => ?_⟩
          · rw [edge]
            refine (if_neg fun h => silent (silent_iff.mp h)).trans ?_
            exact State.queueSlot_setSlot (.inr (.inl state))
          · rw [starts, Bool.eq_false_iff.mpr silent]
            rfl
          · rw [starts, Bool.eq_false_iff.mpr silent]
            exact (List.append_nil _).symm
          · rw [Scheduler.slot_queued]
            simp only [Slot.edged, standing, line, ne_eq, not_true_eq_false, if_false, armed, silent, if_true]
            rfl
      · have starts : (s.slot i).starts l = false := by simp [Slot.starts, armed]
        by_cases misses : (s.slot i).missesEdge = true
        · refine ⟨s.sched.put i { s.slot i with standing := some st.miss }, ?_, by simp [starts, Scheduler.put],
            by simp [starts, Scheduler.put], fun k => ?_⟩
          · simp only [State.edgeSlot, standing, line, ne_eq, not_true_eq_false, if_false, armed, misses, if_true]
            rfl
          · rw [Scheduler.slot_put]
            simp only [Slot.edged, standing, line, ne_eq, not_true_eq_false, if_false, armed, misses, if_true]
            rfl
        · exact stays starts
            (by simp only [Slot.edged, standing, line, ne_eq, not_true_eq_false, if_false, armed,
                  Bool.eq_false_iff.mpr misses, Bool.false_eq_true])
            (by simp only [State.edgeSlot, standing, line, ne_eq, not_true_eq_false, if_false, armed,
                  Bool.eq_false_iff.mpr misses, Bool.false_eq_true])
    · exact stays (by simp [Slot.starts, Slot.onLine, standing, line])
        (by simp only [Slot.edged, standing, ne_eq, line, not_false_eq_true, if_true])
        (by simp only [State.edgeSlot, standing, ne_eq, line, not_false_eq_true, if_true])

/-- An edge at the slots of a list, one after the other. -/
theorem State.foldl_edgeSlot {l : TriggerLine} {is : List SlotId} :
    ∀ {s : State}, is.Nodup → (∀ i ∈ is, (s.slot i).state = .armed → i ∉ s.sched.ready) →
      ∃ c : Scheduler, is.foldl (State.edgeSlot l) s = { s with sched := c } ∧
        c.ready = s.sched.ready ++ is.filter (fun i => (s.slot i).starts l && !s.silentPeer i) ∧
        c.finished = s.sched.finished ++ is.filter (fun i => (s.slot i).starts l && s.silentPeer i) ∧
        ∀ k, c.slot k = if k ∈ is then (s.slot k).edged l (s.silentPeer k) else s.slot k := by
  induction is with
  | nil =>
    intro s _ _
    exact ⟨s.sched, rfl, by simp, by simp, fun k => by simp; rfl⟩
  | cons i is ih =>
    intro s nodup notReady
    obtain ⟨notIn, nodup⟩ := List.nodup_cons.mp nodup
    obtain ⟨c, edge, ready, finished, slots⟩ := State.edgeSlot_eq (l := l) (notReady i List.mem_cons_self)
    have other {k : SlotId} (mem : k ∈ is) : k ≠ i := fun same => notIn (same ▸ mem)
    have slot {k : SlotId} (mem : k ∈ is) : ({ s with sched := c } : State).slot k = s.slot k :=
      (slots k).trans (if_neg (other mem))
    have silent {k : SlotId} (mem : k ∈ is) : ({ s with sched := c } : State).silentPeer k = s.silentPeer k := by
      unfold State.silentPeer
      rw [slot mem]
      rfl
    have notReady' : ∀ k ∈ is, (({ s with sched := c } : State).slot k).state = .armed → k ∉ c.ready := by
      intro k mem armed
      rw [slot mem] at armed
      rw [ready, List.mem_append]
      refine fun waits => waits.elim (notReady k (List.mem_cons_of_mem _ mem) armed) fun new => ?_
      split at new
      · exact other mem (List.mem_singleton.mp new)
      · cases new
    obtain ⟨d, fold, ready', finished', slots'⟩ := ih nodup notReady'
    have same {p : Slot → Bool → Bool} : is.filter (fun k => p (({ s with sched := c } : State).slot k)
        (({ s with sched := c } : State).silentPeer k)) = is.filter fun k => p (s.slot k) (s.silentPeer k) :=
      List.filter_congr fun k mem => by rw [slot mem, silent mem]
    refine ⟨d, ?_, ?_, ?_, fun k => ?_⟩
    · rw [List.foldl_cons, edge, fold]
    · rw [ready', same (p := fun x b => x.starts l && !b), ready, List.append_assoc, List.filter_cons]
      split <;> rfl
    · rw [finished', same (p := fun x b => x.starts l && b), finished, List.append_assoc, List.filter_cons]
      split <;> rfl
    · rw [slots' k]
      by_cases mem : k ∈ is
      · rw [if_pos mem, if_pos (List.mem_cons_of_mem _ mem), slot mem, silent mem]
      · rw [if_neg mem, show ({ s with sched := c } : State).slot k = _ from slots k]
        by_cases own : k = i
        · subst own
          rw [if_pos rfl, if_pos List.mem_cons_self]
        · rw [if_neg own, if_neg (by simp [own, mem])]

theorem State.overrun_eq (s : State) (l : TriggerLine) : s.overrun l = slotIds.any fun i => (s.slot i).misses l := by
  refine congrArg slotIds.any (funext fun i => ?_)
  unfold Slot.misses Slot.onLine
  cases (s.slot i).standing <;> rfl

theorem State.raiseIf_eq (s : State) (c : Bool) (e : Event) :
    s.raiseIf c e = { s with host := if c then s.host.raised e else s.host } := by
  cases c <;> rfl

/-- Settles O29: the detector's level, and the fold of the edge over the slots. -/
theorem triggerEdgeTaken : Obligations.TriggerEdgeTaken := by
  intro s l
  refine ⟨fun high => next_congr (if_pos high), fun low lists => ?_⟩
  intro onLine starts misses silent
  obtain ⟨-, -, inReady, -⟩ := lists
  let high : State := s.setLevel l true
  obtain ⟨c, fold, ready, finished, slots⟩ := State.foldl_edgeSlot (l := l) (is := slotIds) (s := high) (by decide)
    fun i _ armed waits => by
      have queued := (inReady i).mp waits
      exact nomatch queued.symm.trans armed
  have misses_eq (i : SlotId) : misses i = (s.slot i).misses l := by
    simp only [misses, onLine, Slot.misses, Slot.onLine, Slot.missesEdge_eq]
  have late : high.overrun l = slotIds.any misses :=
    (State.overrun_eq high l).trans (congrArg slotIds.any (funext fun i => (misses_eq i).symm))
  let t : State := { high with
    sched := c, host := if slotIds.any misses then s.host.raised .standingOverrun else s.host }
  have queues : (fun i => starts i && !silent i) = fun i => (high.slot i).starts l && !high.silentPeer i := rfl
  have ends : (fun i => starts i && silent i) = fun i => (high.slot i).starts l && high.silentPeer i := rfl
  have edge : high.edge l = t := by
    have edges : high.edge l = (slotIds.foldl (State.edgeSlot l) high).raiseIf (high.overrun l) .standingOverrun := rfl
    rw [edges, fold, late]
    exact State.raiseIf_eq ..
  refine ⟨t, next_congr ((if_neg (by rw [State.level, low]; decide)).trans edge), rfl, fun m => ?_, ?_, ?_, fun i => ?_⟩
  · refine (State.getLsbD_setLevel s l m true).trans ?_
    by_cases same : m = l <;> simp [same]
  · rw [queues]
    exact ready
  · rw [ends]
    exact finished
  · have edged : t.slot i = (s.slot i).edged l (silent i) := (slots i).trans (if_pos (mem_slotIds i))
    rw [edged]
    exact ⟨fun idle free => Slot.edged_of_idle idle (misses_eq i ▸ free) _, fun st standing =>
      ⟨fun busy => Slot.edged_of_misses standing (misses_eq i ▸ busy) _, fun starts => Slot.edged_of_starts standing starts _⟩⟩

end Sys2Proof.Machine
end

section
/-! Contention, the hand-over of a won want, and the deadlines of waiting objects (files 01, 02, 04 and 10). -/

namespace Sys2Proof.Machine

/-! ### The Selector (R65) -/

theorem exec_contend_of_no_entry {s : State} (none : s.roundEntry? = none) : exec .contend s = .next s := by
  refine next_congr ?_
  rw [State.contend, none]

theorem exec_contend_of_not_may {s : State} (not : ¬ s.mayContend = true) : exec .contend s = .next s :=
  exec_contend_of_no_entry (if_neg not)

theorem exec_contend_of_no_want {s : State} (none : s.pickWant = none) : exec .contend s = .next s :=
  exec_contend_of_no_entry (by rw [State.roundEntry?, none, ite_self])

/-- The station after it took the head of its resume queue (R37). -/
def State.withHeadTaken (s : State) (k : Key) (rest : List Key) (x : EntryState) : State :=
  { s with service := { s.service with
      queue := rest, entries := s.service.entries.map fun f => if f.key = k then { f with state := x } else f } }

theorem State.pickWant_head {s : State} {k : Key} {rest : List Key} {e : Entry} (nj : s.station.state ≠ .joining)
    (untaken : s.taken? = none) (queue : s.service.queue = k :: rest) (head : s.entry? k = some e) :
    s.pickWant = some (if e.state = .withdrawDue then (s.withHeadTaken k rest .withdrawing, .withdraw k)
      else (s.withHeadTaken k rest .resuming, .resume k)) := by
  have taken : s.takeQueueHead = some (if e.state = .withdrawDue then (s.withHeadTaken k rest .withdrawing, .withdraw k)
      else (s.withHeadTaken k rest .resuming, .resume k)) := by
    simp only [State.takeQueueHead, queue, head, Option.map_some]
    by_cases due : e.state = .withdrawDue
    · simp only [due, decide_true, if_true]
      rfl
    · simp only [due, decide_false, Bool.false_eq_true, if_false]
      rfl
  rw [State.pickWant, if_neg nj, untaken]
  simp only [taken, Option.some_or]

theorem State.pickWant_open {s : State} (nj : s.station.state ≠ .joining) (untaken : s.taken? = none)
    (queue : s.service.queue = []) : s.pickWant = s.openWant := by
  have noHead : s.takeQueueHead = none := by rw [State.takeQueueHead, queue]
  rw [State.pickWant, if_neg nj, untaken]
  simp only [noHead, Option.none_or]

theorem State.selected?_eq_none {s : State} (none : ∀ i, (s.slot i).state ≠ .selected) : s.selected? = Option.none :=
  List.find?_eq_none.mpr fun i _ => by simpa using none i

/-- Settles O33: the Selector's wants in their order; the rank is that of the entered want's class. -/
theorem contendPicksWant : Obligations.ContendPicksWant := by
  refine ⟨fun s => ⟨fun not => exec_contend_of_not_may fun may => not (s.mayContend_iff.mp may), fun may joining =>
    ⟨fun due => ?_, fun notDue => ?_⟩, fun may nj => ⟨fun e mem only => ⟨fun resuming => ?_, fun withdrawing => ?_⟩,
      fun untaken k rest e queue head => ⟨fun ready => ?_, fun due => ?_⟩, fun untaken queue => ⟨fun none => ?_,
        fun unspent online one => ⟨fun i selected out => ?_, fun none => ⟨fun i rest ready => ?_, fun empty => ?_⟩⟩⟩⟩⟩,
    fun s e entered => ?_⟩
  · exact exec_contend_of_pickWant (s.mayContend_iff.mpr may) (State.pickWant_rollcall joining due)
  · exact exec_contend_of_no_want (by rw [State.pickWant, if_pos joining, if_neg (by rw [notDue]; decide)])
  · exact (exec_contend_of_pickWant (s.mayContend_iff.mpr may)
      ((State.pickWant_taken nj (State.taken?_of_unique mem only (.inl resuming))).trans (by rw [if_pos resuming]))).trans rfl
  · exact (exec_contend_of_pickWant (s.mayContend_iff.mpr may)
      ((State.pickWant_taken nj (State.taken?_of_unique mem only (.inr withdrawing))).trans
        (by rw [if_neg (by rw [withdrawing]; decide)]))).trans rfl
  · exact (exec_contend_of_pickWant (s.mayContend_iff.mpr may)
      ((State.pickWant_head nj (State.taken?_eq_none untaken) queue head).trans
        (by rw [if_neg (by rw [ready]; decide)]))).trans rfl
  · exact (exec_contend_of_pickWant (s.mayContend_iff.mpr may)
      ((State.pickWant_head nj (State.taken?_eq_none untaken) queue head).trans (by rw [if_pos due]))).trans rfl
  · exact exec_contend_of_no_want ((State.pickWant_open nj (State.taken?_eq_none untaken) queue).trans (if_pos none))
  · have nl : s.station.state ≠ .leaving := by rw [online]; decide
    exact exec_contend_of_pickWant (s.mayContend_iff.mpr may)
      (State.pickWant_selected nj nl unspent (State.taken?_eq_none untaken) queue (State.selected?_of_oneSelected one selected) out)
  · have nl : s.station.state ≠ .leaving := by rw [online]; decide
    have want : s.openWant = some ({ s.modSlot i (fun x => { x with state := .selected, callOut := false }) with
        sched := { (s.modSlot i fun x => { x with state := .selected, callOut := false }).sched with ready := rest } },
        .connect i) := by
      simp only [State.openWant, unspent, nl, Bool.false_eq_true, or_self, if_false, State.selected?_eq_none none, ready]
    exact (exec_contend_of_pickWant (s.mayContend_iff.mpr may)
      ((State.pickWant_open nj (State.taken?_eq_none untaken) queue).trans want)).trans rfl
  · have nl : s.station.state ≠ .leaving := by rw [online]; decide
    have want : s.openWant = Option.none := by
      simp only [State.openWant, unspent, nl, Bool.false_eq_true, or_self, if_false, State.selected?_eq_none none, empty]
    exact exec_contend_of_no_want ((State.pickWant_open nj (State.taken?_eq_none untaken) queue).trans want)
  · rw [State.rank?, entered]
    cases e with
    | mk want gone => cases want <;> rfl

/-! ### The hand-over (R68) -/

/-- The station as the round is won: the hold line driven, either party may begin, the entered want cleared. -/
def State.winning (s : State) (w : Want) : State :=
  { s with
    bus := { s.bus with view := .held, holdsLine := true, turn := .either }
    arb := { s.arb with spent := s.arb.spent || w.roundClass = .openClass, entered := none } }

theorem State.roundWon_eq {s : State} {e : Entered} (view : s.bus.view = .contending) (entered : s.arb.entered = some e) :
    s.roundWon = if e.gone then (s.winning e.want).releaseLine else (s.winning e.want).handOver e.want := by
  simp only [State.roundWon, entered, view, if_true]
  rfl

theorem Slot.callBody_eq (x : Slot) : x.callBody =
    .connect x.op.code (BitVec.ofNat 8 (if x.op = .note then 0 else x.window.val))
      (BitVec.ofNat 32 (if x.op = .note then 0 else x.offset)) (BitVec.ofNat 32 x.length) := by
  by_cases note : x.op = .note <;> simp [Slot.callBody, note]

theorem State.handOver_resume {s : State} {k : Key} {e : Entry} (found : s.entry? k = some e) :
    s.handOver (.resume k) = s.openCall .target k .resume e.op e.length (.resume e.progress) := by
  simp only [State.handOver, found]

theorem State.handOver_withdraw {s : State} {k : Key} {e : Entry} (found : s.entry? k = some e) :
    s.handOver (.withdraw k) =
      s.openCall .target k .withdraw e.op e.length (.withdraw (e.withdrawReason.getD .parkLimit)) := by
  simp only [State.handOver, found]

/-- Settles O34: the hand-over by the kind of the want. -/
theorem roundWonHandsOver : Obligations.RoundWonHandsOver := by
  intro s e view entered
  refine ⟨fun gone => ?_, fun stands => ⟨fun want => ?_, fun i want => ?_, fun k n found =>
    ⟨fun want => ?_, fun r want reason => ?_⟩⟩⟩
  · refine next_congr ((State.roundWon_eq view entered).trans ((if_pos gone).trans ?_))
    cases e with
    | mk want gone =>
      cases want <;> simp only [State.winning, State.releaseLine, Want.roundClass, reduceCtorEq, decide_false, decide_true]
  all_goals refine next_congr ((State.roundWon_eq view entered).trans ((if_neg (by rw [stands]; decide)).trans ?_))
  all_goals rw [want]
  · simp only [State.winning, Want.roundClass, decide_true, Bool.or_true]
    rfl
  · simp only [State.winning, Want.roundClass, decide_true, Bool.or_true, State.handOver, Slot.callBody_eq]
    rfl
  · rw [State.handOver_resume (by exact found)]
    simp only [State.winning, Want.roundClass, reduceCtorEq, decide_false, Bool.or_false]
    rfl
  · rw [State.handOver_withdraw (by exact found), reason]
    simp only [State.winning, Want.roundClass, reduceCtorEq, decide_false, Bool.or_false]
    rfl

/-! ### Deadlines (R17, R45, R157) -/

theorem State.withdrawEntry_eq {s : State} {k : Key} {e : Entry} (found : s.entry? k = some e) (r : WithdrawReason) :
    s.withdrawEntry k r = { s with service := s.service.requeue k e.stamp fun x =>
      { x with state := .withdrawDue, withdrawReason := some r } } := State.queueEntry_eq found _

/-- Settles O53: each deadline where it runs, and where it does not. -/
theorem deadlinesExpire : Obligations.DeadlinesExpire := by
  intro s i k
  refine ⟨fun waits runs => ?_, fun not => ?_, fun e found parked runs notQueued n stamp => ?_, fun none => ?_,
    fun e found other => ?_, fun joining runs => next_congr ((if_pos ⟨joining, runs⟩).trans rfl), fun stopped => ?_⟩
  · exact next_congr ((if_pos ⟨waits, runs⟩).trans (State.finishSlot_of_live (by rw [waits]; rfl) (by decide)))
  · refine next_congr (if_neg fun both => ?_)
    exact not.elim (fun other => other both.1) fun none => by simp [none] at both
  · have expires : ((s.entry? k).any fun e => e.state = .parked && e.parkTimer.isSome) = true := by
      simp [found, parked, runs]
    refine next_congr ((if_pos expires).trans ((State.withdrawEntry_eq found _).trans ?_))
    rw [Service.requeue, stamp, closeStamp, List.map_map, List.erase_of_not_mem notQueued]
    refine congrArg (fun es => ({ s with service := { s.service with entries := es, queue := s.service.queue ++ [k] } } : State))
      (List.map_congr_left fun f _ => ?_)
    simp only [Function.comp]
  · exact next_congr (if_neg (by simp [show s.entry? k = Option.none from none]))
  · exact next_congr (if_neg (by simp [show s.entry? k = some e from found, other]))
  · exact next_congr (if_neg fun both => by simp [stopped] at both)

end Sys2Proof.Machine
end

section
/-! Frames of the open connection: what reception does around the Engine's own step (R53, R57, R58, R83, R163), and the frames
that end this station's side of a connection: REFUSE, END, ABORT (O38, O42, O44), with Station Control's frames (O45). -/

namespace Sys2Proof.Machine

/-! ### A frame that has been heard (R53, R83) -/

/-- The station while it settles a frame from its partner: the turn is its own, it drives nothing, and `frames` wait. -/
def State.yielding (s : State) (frames : List Frame) : State :=
  { s with bus := { s.bus with turn := .mine, received := none, driving := none, outbox := frames } }

/-- Frames are on the data path. -/
def Bus.isOpen (b : Bus) : Prop := b.view = .held ∨ b.view = .free

theorem State.open_of_receives {s : State} (receives : s.receives = true) : s.bus.isOpen := by
  simp only [State.receives, Bool.and_eq_true, Bool.or_eq_true, decide_eq_true_eq] at receives
  exact receives.1

theorem State.open_of_delivers {s : State} {h : FrameHead} (delivers : s.delivers h) : s.bus.isOpen :=
  State.open_of_receives delivers.1

/-- Once the frame is settled the first waiting frame begins. -/
theorem State.pump_yielding {s : State} (path : s.bus.isOpen) (frames : List Frame) :
    (s.yielding frames).pump = s.atTurn frames :=
  (State.pump_atTurn (s.yielding frames) rfl rfl rfl path).trans rfl

theorem State.send_yielding {s : State} (path : s.bus.isOpen) (frames : List Frame) (f : Frame) :
    (s.yielding frames).send f = s.atTurn (frames ++ [f]) :=
  State.pump_yielding path (frames ++ [f])

/-- An answer waits behind the frames that wait, and the first of them begins. -/
theorem State.sendBody_yielding {s : State} (path : s.bus.isOpen) (frames : List Frame) (b : Body) :
    (s.yielding frames).sendBody b = s.atTurn (frames ++ [s.connFrame b]) :=
  State.pump_yielding path (frames ++ [s.connFrame b])

theorem State.closingDue?_eq_none {s : State} (none : s.engine.closing = none ∨ s.engine.phase = .closing) :
    s.closingDue? = Option.none := by
  unfold State.closingDue?
  rcases none with closing | phase
  · simp [closing]
  · simp [phase]

/-- A turn taken is not taken again. -/
theorem State.pump_of_atTurn (s : State) (frames : List Frame) : (s.atTurn frames).pump = s.atTurn frames := by
  cases frames with
  | nil =>
    cases due : s.closingDue? with
    | some f =>
      refine State.pump_of_not_mayDrive fun may => ?_
      have quiet : s.closingDue? = none := ((State.mayDrive_iff _).mp may).1
      simp [due] at quiet
    | none =>
      by_cases may : (s.atTurn []).mayDrive = true
      · exact (State.pump_empty rfl may).trans rfl
      · exact State.pump_of_not_mayDrive may
  | cons f rest =>
    by_cases free : f.body.isRollCall = true ∨ s.abortCause? = none
    · refine State.pump_of_not_mayDrive fun may => ?_
      have quiet := ((State.mayDrive_iff _).mp may).1
      simp [State.atTurn, free] at quiet
    · have blocked : s.atTurn (f :: rest) =
          { s with bus := { s.bus with turn := .mine, received := none, driving := none, outbox := f :: rest } } := if_neg free
      rw [not_or, Bool.not_eq_true] at free
      rw [blocked]
      exact State.pump_blocked rfl free.1 free.2

/-- The turn changes the bus alone. -/
theorem State.atTurn_bus (s : State) (frames : List Frame) : s.atTurn frames = { s with bus := (s.atTurn frames).bus } := by
  cases frames with
  | nil => rfl
  | cons f rest => unfold State.atTurn; dsimp only; split <;> rfl

/-- A station whose Engine is at work is not drained by the turn. -/
theorem State.drainTest_atTurn {s : State} (busy : s.engine.phase ≠ .idle) (frames : List Frame) :
    (s.atTurn frames).drainTest = s.atTurn frames := by
  refine State.drainTest_of_not_drained (Bool.eq_false_iff.mpr fun drained => busy ?_)
  have idle := ((State.drained_iff _).mp drained).2.2.2
  rwa [State.atTurn_bus] at idle

theorem State.drainTest_atTurn_of_slot {s : State} {i : SlotId} (busy : (s.slot i).state ≠ .free) (frames : List Frame) :
    (s.atTurn frames).drainTest = s.atTurn frames := by
  rw [State.atTurn_bus]
  exact State.drainTest_of_slot (i := i) (by exact busy)

theorem State.drainTest_atTurn_of_entries {s : State} (busy : s.service.entries ≠ []) (frames : List Frame) :
    (s.atTurn frames).drainTest = s.atTurn frames := by
  refine State.drainTest_of_not_drained (Bool.eq_false_iff.mpr fun drained => busy ?_)
  have empty := ((State.drained_iff _).mp drained).2.2.1
  rwa [State.atTurn_bus] at empty

/-- A frame that belongs to the open connection is settled by `take` on the station that heard it (R53, R58, R83). -/
theorem State.receive_heard {s : State} {h : FrameHead} (delivers : s.delivers h) (hears : s.engine.hears h = true)
    {b : Body} {take : State → State}
    (kind : ∀ t : State, t.takeFrame ⟨h, b⟩ = t.hear h fun u => u.within h take) :
    s.receive h (some b) = (take ((s.heardFrom h).yielding s.waiting)).pump.drainTest := by
  rw [State.receive, State.receiveFrame_of_receives _ _ delivers.1, kind, State.hear_delivered _ _ _ (by exact delivers),
    State.yieldPath_eq, State.within, if_pos (by exact hears)]
  rfl

/-- A settled frame that leaves the waiting frames in their order ends with the turn. -/
theorem State.receive_settled {s t : State} {h : FrameHead} (delivers : s.delivers h) (hears : s.engine.hears h = true)
    {b : Body} {take : State → State} {frames : List Frame}
    (kind : ∀ t : State, t.takeFrame ⟨h, b⟩ = t.hear h fun u => u.within h take)
    (taken : take ((s.heardFrom h).yielding s.waiting) = t.yielding frames) (path : t.bus.view = s.bus.view) :
    s.receive h (some b) = (t.atTurn frames).drainTest := by
  have opened : t.bus.isOpen := by unfold Bus.isOpen; rw [path]; exact State.open_of_delivers delivers
  rw [State.receive_heard delivers hears kind, taken, State.pump_yielding opened]

/-- A settled frame that has been answered ends with the answer. -/
theorem State.receive_answered {s t : State} {h : FrameHead} (delivers : s.delivers h) (hears : s.engine.hears h = true)
    {b : Body} {take : State → State} {frames : List Frame}
    (kind : ∀ t : State, t.takeFrame ⟨h, b⟩ = t.hear h fun u => u.within h take)
    (taken : take ((s.heardFrom h).yielding s.waiting) = t.atTurn frames) :
    s.receive h (some b) = (t.atTurn frames).drainTest := by
  rw [State.receive_heard delivers hears kind, taken, State.pump_of_atTurn]

/-- The drain test after a frame finds the Engine at work. -/
theorem State.receive_busy {s t : State} {h : FrameHead} (delivers : s.delivers h) (hears : s.engine.hears h = true)
    {b : Body} {take : State → State} {frames : List Frame}
    (kind : ∀ t : State, t.takeFrame ⟨h, b⟩ = t.hear h fun u => u.within h take)
    (taken : take ((s.heardFrom h).yielding s.waiting) = t.yielding frames) (path : t.bus.view = s.bus.view)
    (busy : t.engine.phase ≠ .idle) : s.receive h (some b) = t.atTurn frames :=
  (State.receive_settled delivers hears kind taken path).trans (State.drainTest_atTurn busy frames)

theorem State.receive_busy_answered {s t : State} {h : FrameHead} (delivers : s.delivers h) (hears : s.engine.hears h = true)
    {b : Body} {take : State → State} {frames : List Frame}
    (kind : ∀ t : State, t.takeFrame ⟨h, b⟩ = t.hear h fun u => u.within h take)
    (taken : take ((s.heardFrom h).yielding s.waiting) = t.atTurn frames)
    (busy : t.engine.phase ≠ .idle) : s.receive h (some b) = t.atTurn frames :=
  (State.receive_answered delivers hears kind taken).trans (State.drainTest_atTurn busy frames)

theorem Engine.open_of_hears {e : Engine} {h : FrameHead} (hears : e.hears h = true) : e.phase ≠ .idle := by
  intro idle
  simp [Engine.hears, idle] at hears

/-- A frame that does nothing more has only been heard. -/
theorem State.receive_ignored {s : State} {h : FrameHead} (delivers : s.delivers h) (hears : s.engine.hears h = true)
    {b : Body} {take : State → State} (kind : ∀ t : State, t.takeFrame ⟨h, b⟩ = t.hear h fun u => u.within h take)
    (ignored : take ((s.heardFrom h).yielding s.waiting) = (s.heardFrom h).yielding s.waiting) :
    s.receive h (some b) = s.hearing h := by
  rw [State.receive_settled delivers hears kind ignored rfl]
  exact State.drainTest_atTurn (by exact Engine.open_of_hears hears) _

/-! ### The fields of a frame as a receiver reads them (13.1, R55) -/

@[simp] theorem RefuseReason.ofCode?_code (r : RefuseReason) : RefuseReason.ofCode? r.code.toNat = some r := by
  cases r <;> rfl

@[simp] theorem DisconnectReason.ofCode?_code (r : DisconnectReason) : DisconnectReason.ofCode? r.code.toNat = some r := by
  cases r <;> rfl

@[simp] theorem WithdrawReason.ofCode?_code (r : WithdrawReason) : WithdrawReason.ofCode? r.code.toNat = some r := by
  cases r <;> rfl

@[simp] theorem AbortReason.ofCode?_code (r : AbortReason) : AbortReason.ofCode? r.code.toNat = some r := by
  cases r <;> rfl

/-! ### This side of the connection ends (R53, R96, R97, R98) -/

theorem State.leaveConnection_yielding (s : State) (frames : List Frame) :
    (s.yielding frames).leaveConnection = s.offConnection.yielding (frames.filter Frame.ofStationControl) := by
  rw [State.leaveConnection_eq]
  by_cases holder : s.engine.busRole = .holder <;> simp [State.offConnection, State.yielding, holder]

theorem State.entryWantGone_of_idle {s : State} (entered : s.arb.entered = none) (idle : s.engine.phase = .idle) (k : Key) :
    s.entryWantGone k = s := by
  have kept (w : Want) : s.markGone w = s := by simp only [State.markGone, entered]
  simp only [State.entryWantGone, kept, idle, reduceCtorEq, false_and, if_false]

theorem any_keeps_closeStamp (o : Option Nat) (es : List Entry) (w : WindowId) :
    (closeStamp o es).any (·.keeps w) = es.any (·.keeps w) := by
  rw [closeStamp_eq_map, List.any_map]
  exact congrArg es.any (funext fun e => by simp [Entry.keeps])

/-- An entry that no call is made for leaves the table as `afterEntry` says; the stamps above its own are one lower
(R35, R43, R45). -/
theorem State.removeEntry_idle {s : State} {k : Key} {e : Entry} (found : s.entry? k = some e)
    (entered : s.arb.entered = none) (idle : s.engine.phase = .idle) :
    s.removeEntry k = { s.afterEntry k e.window with
      service := { (s.afterEntry k e.window).service with
        entries := closeStamp e.stamp (s.afterEntry k e.window).service.entries } } := by
  rw [State.removeEntry_found found, State.entryWantGone_of_idle (by exact entered) (by exact idle), ite_self]
  have keeps : (s.service.remove k e.stamp).entries.any (·.keeps e.window) =
      (s.service.entries.filter fun f => f.key ≠ k).any (·.keeps e.window) := any_keeps_closeStamp ..
  by_cases lost : (s.window e.window).hold = .holding ∧
      ¬ (s.service.entries.filter fun f => f.key ≠ k).any (·.keeps e.window) = true
  · have held : ((s.window e.window).hold = .holding && !((s.service.entries.filter fun f => f.key ≠ k).any fun f =>
        f.window = e.window && (f.state = .connected || f.state = .resuming))) = true := by simpa [Entry.keeps] using lost
    refine (if_pos (by rw [keeps]; exact lost)).trans ?_
    simp only [State.afterEntry, held, if_true]
    rfl
  · have stays : ((s.window e.window).hold = .holding && !((s.service.entries.filter fun f => f.key ≠ k).any fun f =>
        f.window = e.window && (f.state = .connected || f.state = .resuming))) = false := by
      rw [Bool.eq_false_iff]
      simpa [Entry.keeps] using lost
    refine (if_neg (by rw [keeps]; exact lost)).trans ?_
    simp only [State.afterEntry, stays, if_neg Bool.false_ne_true]
    rfl

/-- An entry that is dropped leaves the table with SERVICE_DROPPED. -/
theorem State.dropEntry_found {s : State} {k : Key} {e : Entry} (found : s.entry? k = some e) :
    s.dropEntry k = (s.removeEntry k).raise .serviceDropped := by
  rw [State.dropEntry, found]
  rfl

end Sys2Proof.Machine
end

section
/-! ABORT, REFUSE and END taken, ROLLCALL and PRESENT heard (O44, O38, O45). -/

namespace Sys2Proof.Machine

/-! ### ABORT (R97, R98, R151) -/

theorem Engine.faulted_iff (e : Engine) : e.faulted = true ↔ ∃ d, e.abortDue = some (.localFault d) := by
  unfold Engine.faulted
  split
  · next d due => exact iff_of_true rfl ⟨d, due⟩
  · next other => exact iff_of_false Bool.false_ne_true fun ⟨d, due⟩ => other d due

theorem State.endSide_initiator {s : State} (role : s.engine.role = .initiator) (o : ExchangeOutcome) :
    s.endSide o = if (s.slot s.engine.tag.slot).state = .active then s.leaveConnection.finishSlot s.engine.tag.slot o
      else s.leaveConnection := by
  unfold State.endSide
  rw [s.leaveConnection_eq]
  dsimp only
  rw [role]
  rfl

theorem State.endSide_target {s : State} (role : s.engine.role = .target) (o : ExchangeOutcome) :
    s.endSide o = s.leaveConnection.dropEntry s.engine.key := by
  unfold State.endSide
  dsimp only
  rw [role]

/-- A side that has ended a slot is not drained. -/
theorem State.drainTest_atTurn_ended {s : State} {c : Scheduler} {i : SlotId} {o : ExchangeOutcome} {more : Bool}
    (ended : s.sched = c.ended i o more) (frames : List Frame) : (s.atTurn frames).drainTest = s.atTurn frames := by
  refine State.drainTest_atTurn_of_slot (i := i) ?_ frames
  have slot : s.slot i = (c.slot i).ended o more :=
    (congrArg (Scheduler.slot · i) ended).trans ((Scheduler.slot_ended ..).trans (if_pos rfl))
  rw [slot]
  exact fun free => nomatch free

theorem exec_abortReceived (s : State) (h : FrameHead) (r : AbortReason) :
    exec (.abortReceived h r.code) s = .next (s.receive h (some (.abort r))) :=
  congrArg (fun b => (.next (s.receive h (Option.map Body.abort b)) : Result)) (AbortReason.ofCode?_code r)

theorem AbortReason.outcome_eq (r : AbortReason) :
    r.outcome = if r = .localFault then .targetFault else .linkError .retries := by
  cases r <;> rfl

/-- Settles O44: the side ends as `offConnection` says, and its slot or its entry with it. -/
theorem abortTaken : Obligations.AbortTaken := by
  intro s h reason delivers hears entered c k left control outcome discards
  have frame : c = .abortReceived h reason.code := rfl
  have kind : ∀ t : State, t.takeFrame ⟨h, .abort reason⟩ = t.hear h fun u => u.within h fun v => v.takeAbort reason :=
    fun _ => rfl
  have discards_iff : s.engine.phase = .calling ∨ s.engine.faulted = true ↔ discards := by rw [Engine.faulted_iff]
  rw [frame, exec_abortReceived]
  have same : reason.outcome = outcome := reason.outcome_eq
  have ends (not : ¬ discards) : ((s.heardFrom h).yielding s.waiting).takeAbort reason =
      ((s.heardFrom h).yielding s.waiting).endSide outcome := by
    rw [← same]
    exact if_neg (by rw [← discards_iff] at not; exact not)
  have off : ((s.heardFrom h).yielding s.waiting).leaveConnection = left.yielding control := State.leaveConnection_yielding ..
  have leftEntered : left.arb.entered = none := entered
  refine ⟨fun discarded => next_congr ?_, fun not role active => next_congr ?_, fun not role idle => next_congr ?_,
    fun not role none => next_congr ?_, fun not role e found stamp => next_congr ?_,
    fun not role e n found stamp parked => next_congr ?_⟩
  · exact State.receive_ignored delivers hears kind (if_pos (discards_iff.mpr discarded))
  · refine (State.receive_settled delivers hears kind (t := { left with sched := s.sched.ended s.engine.tag.slot outcome })
      (frames := control) ?_ rfl).trans (State.drainTest_atTurn_ended rfl _)
    rw [ends not, State.endSide_initiator (by exact role), if_pos (by exact active), off]
    have live : (s.slot s.engine.tag.slot).state.live = true := by rw [active]; rfl
    refine State.finishSlot_of_live (by exact live) ?_
    rw [← same]
    cases reason <;> exact fun done => nomatch done
  · refine State.receive_settled delivers hears kind ?_ rfl
    rw [ends not, State.endSide_initiator (by exact role), if_neg (by exact idle), off]
  · refine State.receive_settled delivers hears kind ?_ rfl
    rw [ends not, State.endSide_target (by exact role), off]
    exact State.dropEntry_of_none _ _ none
  · refine State.receive_settled delivers hears kind ?_ rfl
    rw [ends not, State.endSide_target (by exact role), off, State.dropEntry_found (by exact found),
      State.removeEntry_idle (by exact found) (by exact entered) rfl, stamp]
    rfl
  · refine State.receive_settled delivers hears kind ?_ rfl
    rw [ends not, State.endSide_target (by exact role), off, State.dropEntry_found (by exact found),
      State.removeEntry_idle (by exact found) (by exact entered) rfl, stamp]
    rfl

/-! ### ROLLCALL and PRESENT (R157, R158, R163) -/

theorem State.setPeer_present {s : State} {p : StationId} (other : p ≠ s.ownId) :
    s.sourceReport p = { s with station := s.station.heard p } := if_neg other

/-- Settles O45: Station Control's two frames by the station's state. -/
theorem rollCallHeard : Obligations.RollCallHeard := by
  intro s id slot gen serial receives h on empty heard conflict
  have roll : exec (.rollcallReceived h serial) s =
      .next (({ s with bus := empty } : State).hearRollCall h) :=
    next_congr (State.receiveFrame_of_receives _ _ receives)
  have present : exec (.presentReceived h) s = .next (({ s with bus := empty } : State).hearPresent h) :=
    next_congr (State.receiveFrame_of_receives _ _ receives)
  rw [roll, present]
  have path : s.bus.isOpen := State.open_of_receives receives
  have reported (other : id ≠ s.ownId) : ({ s with bus := empty } : State).sourceReport h.src = heard := if_neg other
  have own_report (own : id = s.ownId) : ({ s with bus := empty } : State).sourceReport h.src = { s with bus := empty } :=
    if_pos own
  refine ⟨fun member own => ⟨next_congr ?_, next_congr ?_⟩, fun member other => ⟨next_congr ?_, next_congr ?_⟩,
    fun joining own => ⟨next_congr ?_, next_congr ?_⟩⟩
  · have answered : ({ s with bus := empty } : State).answerRollCall =
        s.atTurn (s.waiting ++ [⟨⟨s.ownId, s.ownId, 0, 0⟩, .present⟩]) := by
      rw [State.answerRollCall, State.yieldPath_eq]
      exact State.send_yielding path s.waiting _
    rcases member with state | state <;>
      simp only [State.hearRollCall, state, own_report own, if_pos (show h.dst = ({ s with bus := empty } : State).ownId from own), answered]
  · rcases member with state | state <;>
      simp only [State.hearPresent, state, if_pos (show h.src = ({ s with bus := empty } : State).ownId from own)]
  · rcases member with (state | state) | state <;>
      simp only [State.hearRollCall, state, reported other, if_neg (show ¬ h.dst = ({ s with bus := empty } : State).ownId from other)]
  · rcases member with (state | state) | state <;>
      simp only [State.hearPresent, state, reported other, if_neg (show ¬ h.src = ({ s with bus := empty } : State).ownId from other)]
  · simp only [State.hearRollCall, joining, own_report own, if_pos (show h.dst = ({ s with bus := empty } : State).ownId from own)]
    rfl
  · simp only [State.hearPresent, joining, if_pos (show h.src = ({ s with bus := empty } : State).ownId from own)]
    rfl

end Sys2Proof.Machine
end

section
/-! REFUSE and END taken, and the frames that belong to no open connection (O38, O42, O35). -/

namespace Sys2Proof.Machine

/-! ### REFUSE (R80, R81, R11, R12, R19, R38, R39) -/

theorem exec_refuseReceived (s : State) (h : FrameHead) (r : RefuseReason) :
    exec (.refuseReceived h r.code) s = .next (s.receive h (some (.refuse r))) :=
  congrArg (fun b => (.next (s.receive h (Option.map Body.refuse b)) : Result)) (RefuseReason.ofCode?_code r)

/-- The Exchange Table after the CONNECT of SELECTED slot `i` was refused. -/
def Scheduler.refused (c : Scheduler) (i : SlotId) (r : RefuseReason) (leaving : Bool) : Scheduler :=
  let counted := { c.slot i with busyRefusals := (c.slot i).busyRefusals + 1 }
  if (c.slot i).cancelRequested then c.ended i .cancelled
  else if ¬ (r = .tableFull ∨ r = .notesFull) then c.ended i (.refused r)
  else if 8 ≤ (c.slot i).busyRefusals + 1 then (c.put i counted).ended i (.refused r)
  else if leaving then (c.put i counted).ended i .left
  else c.queued i counted

theorem Scheduler.state_refused (c : Scheduler) (i : SlotId) (r : RefuseReason) (leaving : Bool) :
    ((c.refused i r leaving).slot i).state ≠ .free := by
  simp only [Scheduler.refused]
  split_ifs <;> simp [Scheduler.slot_ended, Scheduler.slot_queued, Slot.ended]

/-- A slot that is changed and stays live ends as the changed slot. -/
theorem State.finishSlot_setSlot {s : State} {i : SlotId} {x : Slot} {o : ExchangeOutcome} (live : x.state.live = true)
    (undone : o ≠ .done) : (s.setSlot i x).finishSlot i o = { s with sched := (s.sched.put i x).ended i o } :=
  (State.finishSlot_of_live (by rw [State.slot_setSlot_self]; exact live) undone).trans rfl

theorem State.callRefused_eq {s : State} {i : SlotId} (selected : (s.slot i).state = .selected) (r : RefuseReason) :
    s.callRefused i r = { s with sched := s.sched.refused i r (s.station.state = .leaving) } := by
  have live : (s.slot i).state.live = true := by rw [selected]; rfl
  have same : s.sched.slot i = s.slot i := rfl
  let counted : Slot := { s.slot i with busyRefusals := (s.slot i).busyRefusals + 1 }
  have finishes (o : ExchangeOutcome) (undone : o ≠ .done) : (s.setSlot i counted).finishSlot i o =
      { s with sched := (s.sched.put i counted).ended i o } := State.finishSlot_setSlot live undone
  refine (if_neg (not_not_intro selected)).trans ?_
  simp only [Scheduler.refused, same]
  split
  · exact State.finishSlot_of_live live (fun done => nomatch done)
  · by_cases busy : r = .tableFull ∨ r = .notesFull
    · rw [if_pos busy, if_neg (not_not_intro busy)]
      by_cases eighth : 8 ≤ (s.slot i).busyRefusals + 1
      · rw [if_pos eighth, if_pos (by exact eighth)]
        exact finishes (.refused r) fun done => nomatch done
      · rw [if_neg eighth, if_neg (by exact eighth)]
        by_cases leaving : s.station.state = .leaving
        · rw [decide_eq_true leaving]
          refine (if_pos (by exact leaving)).trans ?_
          exact finishes .left fun done => nomatch done
        · rw [decide_eq_false leaving]
          refine (if_neg (by exact leaving)).trans ?_
          exact State.queueSlot_setSlot (s := s) (i := i) (x := counted) (.inr (.inr selected))
    · rw [if_neg busy, if_pos busy]
      exact State.finishSlot_of_live live (fun done => nomatch done)

theorem Engine.awaitsAnswer_of {e : Engine} (calling : e.phase = .calling) (timer : e.answerTimer.isSome = true) :
    e.awaitsAnswer = true := by
  simp [Engine.awaitsAnswer, calling, timer]

/-- Settles O38: the holder releases, and the call's owner settles its slot or its entry. -/
theorem callRefused : Obligations.CallRefused := by
  intro s h reason delivers hears calling timer holder c i x k left control busy counted settled
  have frame : c = .refuseReceived h reason.code := rfl
  have kind : ∀ t : State, t.takeFrame ⟨h, .refuse reason⟩ = t.hear h fun u => u.within h fun v => v.takeRefuse reason :=
    fun _ => rfl
  have awaits : ((s.heardFrom h).yielding s.waiting).engine.awaitsAnswer = true := Engine.awaitsAnswer_of calling timer
  have off : ((s.heardFrom h).yielding s.waiting).leaveConnection = left.yielding control := State.leaveConnection_yielding ..
  rw [frame, exec_refuseReceived]
  refine ⟨fun purpose selected => next_congr ?_, fun e found stamp entered =>
    ⟨fun purpose resuming => next_congr ?_, fun purpose withdrawing => next_congr ?_⟩⟩
  · have refused : settled = s.sched.refused i reason (s.station.state = .leaving) := by
      simp only [Scheduler.refused, decide_eq_true_eq]
      rfl
    rw [refused]
    refine (State.receive_settled delivers hears kind
      (t := { left with sched := s.sched.refused i reason (s.station.state = .leaving) }) (frames := control) ?_ rfl).trans
      (State.drainTest_atTurn_of_slot (i := i) (by exact s.sched.state_refused i reason _) _)
    simp only [State.takeRefuse, awaits, if_true, show ((s.heardFrom h).yielding s.waiting).engine.purpose = .connect from purpose, off]
    exact State.callRefused_eq (s := left.yielding control) (by exact selected) reason
  · refine State.receive_settled delivers hears kind ?_ rfl
    simp only [State.takeRefuse, awaits, if_true, show ((s.heardFrom h).yielding s.waiting).engine.purpose = .resume from purpose, off]
    rw [State.dropEntry_found (by exact found), State.removeEntry_idle (by exact found) (by exact entered) rfl, stamp]
    rfl
  · refine State.receive_settled delivers hears kind ?_ rfl
    simp only [State.takeRefuse, awaits, if_true, show ((s.heardFrom h).yielding s.waiting).engine.purpose = .withdraw from purpose,
      State.withdrawDone, off, State.retireEntry]
    rw [State.removeEntry_idle (by exact found) (by exact entered) rfl, stamp]
    rfl

/-! ### END (R95, R36, R37, R39, R43, R101) -/

theorem State.atTurn_service (s : State) (frames : List Frame) : (s.atTurn frames).service = s.service :=
  congrArg (·.service) (s.atTurn_bus frames)

theorem State.atTurn_host (s : State) (frames : List Frame) : (s.atTurn frames).host = s.host :=
  congrArg (·.host) (s.atTurn_bus frames)

/-- An entry that keeps no window after a change is not counted by the window's check (R43). -/
theorem any_keeps_changed {es : List Entry} {k : Key} {w : WindowId} {f : Entry → Entry}
    (lost : ∀ x : Entry, (f x).keeps w = false) :
    (es.map fun x => if x.key = k then f x else x).any (·.keeps w) = true ↔
      ∃ x ∈ es, x.key ≠ k ∧ x.window = w ∧ (x.state = .connected ∨ x.state = .resuming) := by
  simp only [List.any_map, List.any_eq_true, Function.comp]
  refine exists_congr fun x => and_congr_right fun _ => ?_
  by_cases own : x.key = k
  · simp [own, lost]
  · simp [own, Entry.keeps]

theorem State.windowCheck_held {s : State} {w : WindowId} (holding : (s.window w).hold = .holding)
    (none : ¬ s.service.entries.any (·.keeps w) = true) :
    s.windowCheck w = { s with service := s.service.setHold w .held, host := s.host.raised .windowHeld } :=
  if_pos ⟨holding, none⟩

theorem State.windowCheck_stays {s : State} {w : WindowId}
    (stays : ¬ ((s.window w).hold = .holding ∧ ¬ s.service.entries.any (·.keeps w) = true)) : s.windowCheck w = s :=
  if_neg stays

/-- The window's check settles the windows and WINDOW_HELD alone: a HOLDING window that no entry keeps is HELD (R43). -/
theorem State.windowCheck_settles (s : State) (w : WindowId) {kept : Prop}
    (keeps : s.service.entries.any (·.keeps w) = true ↔ kept) :
    ∃ v h, s.windowCheck w = { s with service := v, host := h } ∧ v.queue = s.service.queue ∧
      v.entries = s.service.entries ∧
      ((s.window w).hold = .holding ∧ ¬ kept → h = s.host.raised .windowHeld ∧
        v.windows = s.service.windows.set w { s.window w with hold := .held }) ∧
      (¬ ((s.window w).hold = .holding ∧ ¬ kept) → h = s.host ∧ v.windows = s.service.windows) := by
  rw [← keeps]
  by_cases lost : (s.window w).hold = .holding ∧ ¬ s.service.entries.any (·.keeps w) = true
  · exact ⟨_, _, State.windowCheck_held lost.1 lost.2, rfl, rfl, fun _ => ⟨rfl, rfl⟩, fun not => absurd lost not⟩
  · exact ⟨_, _, State.windowCheck_stays lost, rfl, rfl, fun held => absurd held lost, fun _ => ⟨rfl, rfl⟩⟩

/-- An entry that does not wait is not in the resume queue (R37). -/
theorem Service.Table.not_queued {v : Service} (table : v.Table) {k : Key} {e : Entry} (found : v.entry? k = some e)
    (state : e.waits = false) : k ∉ v.queue := by
  intro mem
  have ⟨_, _, _, waiting, _⟩ := table
  obtain ⟨f, hf, key, waits⟩ := waiting k mem
  obtain ⟨he, own⟩ := Service.entry?_mem found
  rw [table.unique hf he (key.trans own.symm), state] at waits
  exact Bool.false_ne_true waits

/-- What `settleFinish` does with a CONNECTED entry: it is retired, and a reservation it held becomes an ANNOUNCE note. -/
theorem State.settleFinish_connected {s : State} {k : Key} {e : Entry} (found : s.entry? k = some e)
    (connected : e.state = .connected) :
    s.settleFinish k = if e.reservation then
      (s.removeEntry k).storeNote (.announce k.initiator e.window e.offset e.length) else s.removeEntry k := by
  simp only [State.settleFinish, found, connected, if_true, State.finishEntry]
  rfl

theorem State.settleFinish_of_none {s : State} {k : Key} (none : s.entry? k = none) : s.settleFinish k = s := by
  simp only [State.settleFinish, none]

theorem State.settleDisconnect_of_none {s : State} {k : Key} (none : s.entry? k = none) : s.settleDisconnect k = s := by
  simp only [State.settleDisconnect, none]

theorem State.settleDisconnect_connected {s : State} {k : Key} {e : Entry} (found : s.entry? k = some e)
    (connected : e.state = .connected) :
    s.settleDisconnect k = if (s.window e.window).hold = .ready then s.readyEntry k else s.parkAndCheck k := by
  simp only [State.settleDisconnect, found, connected, ne_eq, not_true, if_false]

/-- The entry that the Engine has served is set aside, with its window's check (R36, R43, R48). -/
theorem State.parkAndCheck_eq {s : State} {k : Key} {e : Entry} (found : s.entry? k = some e) :
    s.parkAndCheck k = (s.parkEntry k).windowCheck e.window := by
  simp only [State.parkAndCheck, found]

theorem Entry.waits_of_connected {e : Entry} (connected : e.state = .connected) : e.waits = false := by
  simp [Entry.waits, connected]

/-- The closer's step is done (R95, R36). -/
theorem State.takeEnd_closing {s : State} {c : ClosingFrame} (closing : s.engine.phase = .closing)
    (closed : s.engine.closing = some c) : s.takeEnd = s.closingDone := by
  refine (if_neg fun ⟨awaits, _⟩ => ?_).trans (if_pos ⟨closing, by rw [closed]; rfl⟩)
  simp [Engine.awaitsAnswer, closing] at awaits

theorem State.closingDone_finish {s : State} {n : Nat} (closed : s.engine.closing = some (.finish n)) :
    s.closingDone = s.leaveConnection.settleFinish s.engine.key := by
  simp only [State.closingDone, closed]

theorem State.closingDone_disconnect {s : State} {r : DisconnectReason} {n : Nat}
    (closed : s.engine.closing = some (.disconnect r n)) :
    s.closingDone = s.leaveConnection.settleDisconnect s.engine.key := by
  simp only [State.closingDone, closed]

/-- Settles O42: the closer's step is done, and the entry settled by its closing frame. -/
theorem endTaken : Obligations.EndTaken := by
  have kind (h : FrameHead) : ∀ t : State, t.takeFrame ⟨h, .endConnection⟩ = t.hear h fun u => u.within h State.takeEnd :=
    fun _ => rfl
  refine ⟨fun s h e delivers hears role found entered stamp table => ?_, fun s h delivers hears none closing some => ?_⟩
  · intro k left control
    have off : ((s.heardFrom h).yielding s.waiting).leaveConnection = left.yielding control := State.leaveConnection_yielding ..
    have removed : (left.yielding control).removeEntry k = (left.afterEntry k e.window).yielding control := by
      rw [State.removeEntry_idle (by exact found) (by exact entered) rfl, stamp]
      rfl
    have nonempty : s.service.entries ≠ [] := List.ne_nil_of_mem (State.entry?_key found).1
    have finishes {n : Nat} (closing : s.engine.phase = .closing) (connected : e.state = .connected)
        (closed : s.engine.closing = some (.finish n)) : ((s.heardFrom h).yielding s.waiting).takeEnd =
        if e.reservation then ((left.afterEntry k e.window).yielding control).storeNote
          (.announce k.initiator e.window e.offset e.length) else (left.afterEntry k e.window).yielding control := by
      rw [State.takeEnd_closing (by exact closing) (by exact closed), State.closingDone_finish (by exact closed), off,
        ← removed]
      exact State.settleFinish_connected (s := left.yielding control) found connected
    refine ⟨fun closing connected => ⟨fun n closed => ⟨fun kept => next_congr ?_, fun announces => next_congr ?_⟩,
      fun r n closed => ?_⟩, fun calling timer purpose withdrawing => next_congr ?_⟩
    · refine State.receive_settled delivers hears (kind h) ?_ rfl
      rw [finishes closing connected closed, kept]
      rfl
    · refine State.receive_settled delivers hears (kind h) ?_ rfl
      rw [finishes closing connected closed, announces]
      rfl
    · intro joins kept held aside
      have disconnects : ((s.heardFrom h).yielding s.waiting).takeEnd =
          if (s.window e.window).hold = .ready then (left.yielding control).readyEntry k
          else (left.yielding control).parkAndCheck k := by
        rw [State.takeEnd_closing (by exact closing) (by exact closed), State.closingDone_disconnect (by exact closed), off]
        exact State.settleDisconnect_connected (s := left.yielding control) found connected
      have absent : k ∉ s.service.queue :=
        Service.Table.not_queued (v := s.service) table found (Entry.waits_of_connected connected)
      have setAside {es : List Entry} {queue : List Key} (not : ¬ joins)
          (parked : (left.yielding control).parkEntry k =
            ({ left with service := { s.service with entries := es, queue := queue } } : State).yielding control)
          (keeps : es.any (·.keeps e.window) = true ↔ kept) (filled : es ≠ []) : aside queue es := by
        obtain ⟨v, host, settled, sameQueue, sameEntries, lost, stays⟩ :=
          (({ left with service := { s.service with entries := es, queue := queue } } : State).yielding
            control).windowCheck_settles e.window keeps
        have taken : ((s.heardFrom h).yielding s.waiting).takeEnd =
            ({ left with service := v, host := host } : State).yielding control := by
          rw [disconnects, if_neg not, State.parkAndCheck_eq (by exact found), parked, settled]
          rfl
        refine ⟨_, next_congr ((State.receive_settled delivers hears (kind h) taken rfl).trans
          (State.drainTest_atTurn_of_entries (by exact fun empty => filled (sameEntries.symm.trans empty)) _)), ?_⟩
        rw [State.atTurn_service, State.atTurn_host]
        exact ⟨rfl, sameQueue, sameEntries, lost, stays⟩
      refine ⟨fun ready => next_congr ?_, fun not online => setAside not ?_ ?_ ?_, fun not leaving => setAside not ?_ ?_ ?_⟩
      · have taken : ((s.heardFrom h).yielding s.waiting).takeEnd = ({ left with service := { s.service with
            queue := s.service.queue ++ [k]
            entries := s.service.entries.map fun f =>
              if f.key = k then { f with state := .ready, stamp := none, parkTimer := none } else f } } : State).yielding
            control := by
          rw [disconnects, if_pos ready, State.readyEntry, State.queueEntry_eq (by exact found), Service.requeue, stamp]
          rw [show (left.yielding control).service.queue.erase k = s.service.queue from List.erase_of_not_mem absent]
          rfl
        exact (State.receive_settled delivers hears (kind h) taken rfl).trans
          (State.drainTest_atTurn_of_entries (by exact fun empty => nonempty (List.map_eq_nil_iff.mp empty)) _)
      · rw [State.parkEntry_eq (by exact found) (by rw [show (left.yielding control).station.state = _ from online]; decide)
          (by rw [connected]; decide), Service.park]
        rw [show (left.yielding control).service.queue.erase k = s.service.queue from List.erase_of_not_mem absent]
        rfl
      · exact any_keeps_changed fun x => by simp [Entry.keeps]
      · exact fun empty => nonempty (List.map_eq_nil_iff.mp empty)
      · rw [State.parkEntry, if_pos (by exact leaving), State.withdrawEntry_eq (by exact found), Service.requeue, stamp]
        rw [show (left.yielding control).service.queue.erase k = s.service.queue from List.erase_of_not_mem absent]
        rfl
      · exact any_keeps_changed fun x => by simp [Entry.keeps]
      · exact fun empty => nonempty (List.map_eq_nil_iff.mp empty)
    · refine State.receive_settled delivers hears (kind h) ?_ rfl
      have awaits : ((s.heardFrom h).yielding s.waiting).engine.awaitsAnswer = true := Engine.awaitsAnswer_of calling timer
      refine (if_pos ⟨awaits, purpose⟩).trans ?_
      rw [State.withdrawDone, off]
      exact removed
  · refine next_congr (State.receive_settled delivers hears (kind h) ?_ rfl)
    obtain ⟨c, closed⟩ := Option.isSome_iff_exists.mp some
    rw [State.takeEnd_closing (by exact closing) (by exact closed)]
    cases c with
    | finish n =>
      rw [State.closingDone_finish (by exact closed), State.leaveConnection_yielding]
      exact State.settleFinish_of_none (by exact none)
    | disconnect r n =>
      rw [State.closingDone_disconnect (by exact closed), State.leaveConnection_yielding]
      exact State.settleDisconnect_of_none (by exact none)

end Sys2Proof.Machine
end

section
/-! Frames without an effect (O35), the closing frames at the initiator (O41), RESUME and WITHDRAW (O43). -/

namespace Sys2Proof.Machine

/-! ### Frames that belong to no open connection (R55 to R58, R82, R83) -/

/-- A station that takes no frame, or is not on the bus, stays as it is (R57, R58). -/
theorem State.receive_deaf {s : State} (empty : BufferEmpty s)
    (deaf : s.station.state = .offline ∨ s.station.state = .configuring ∨ (s.bus.view ≠ .held ∧ s.bus.view ≠ .free))
    (h : FrameHead) (b : Option Body) : s.receive h b = s := by
  cases b with
  | none => rfl
  | some b =>
    by_cases receives : s.receives = true
    · have away : s.station.state = .offline ∨ s.station.state = .configuring := by
        rcases deaf with offline | configuring | ⟨held, free⟩
        · exact .inl offline
        · exact .inr configuring
        · exact absurd (State.open_of_receives receives) (not_or.mpr ⟨held, free⟩)
      have same : ({ s with bus := { s.bus with received := none } } : State) = s := by
        rw [show (none : Option Frame) = s.bus.received from empty.symm]
      rw [State.receive, State.receiveFrame_of_receives _ _ receives, same]
      rcases away with state | state <;> cases b <;>
        simp only [State.takeFrame, State.hear, State.hearRollCall, State.hearPresent, state, ite_self]
    · exact State.receiveFrame_deaf s _ (Bool.not_eq_true _ ▸ receives)

theorem State.within_unheard {s : State} {h : FrameHead} (unheard : s.engine.hears h = false) (take : State → State) :
    s.within h take = s := if_neg (by rw [unheard]; exact Bool.false_ne_true)

theorem State.takeCall_unheard {s : State} {h : FrameHead} (busy : s.engine.phase ≠ .idle)
    (unheard : s.engine.hears h = false) (b : Body) : s.takeCall h b = s := by
  simp only [State.takeCall, busy, if_false]
  exact State.within_unheard unheard _

/-- A frame of a connection is handed to the Engine, which discards it when it belongs to no open connection (R82, R83). -/
theorem State.takeFrame_connection (h : FrameHead) {b : Body} (connection : b.isRollCall = false) :
    ∃ deliver : State → State, (∀ t : State, t.takeFrame ⟨h, b⟩ = t.hear h deliver) ∧
      ∀ t : State, t.engine.phase ≠ .idle → t.engine.hears h = false → deliver t = t := by
  cases b with
  | rollcall n => exact nomatch connection
  | present => exact nomatch connection
  | connect op w o l => exact ⟨fun t => t.takeCall h (.connect op w o l), fun _ => rfl, fun _ busy unheard => State.takeCall_unheard busy unheard _⟩
  | resume o => exact ⟨fun t => t.takeCall h (.resume o), fun _ => rfl, fun _ busy unheard => State.takeCall_unheard busy unheard _⟩
  | withdraw r => exact ⟨fun t => t.takeCall h (.withdraw r), fun _ => rfl, fun _ busy unheard => State.takeCall_unheard busy unheard _⟩
  | accept o => exact ⟨fun t => t.within h fun u => u.takeAccept o, fun _ => rfl, fun _ _ unheard => State.within_unheard unheard _⟩
  | refuse r => exact ⟨fun t => t.within h fun u => u.takeRefuse r, fun _ => rfl, fun _ _ unheard => State.within_unheard unheard _⟩
  | data q p => exact ⟨fun t => t.within h fun u => u.takeDataFrame q p, fun _ => rfl, fun _ _ unheard => State.within_unheard unheard _⟩
  | ack q => exact ⟨fun t => t.within h fun u => u.takeAckFrame q, fun _ => rfl, fun _ _ unheard => State.within_unheard unheard _⟩
  | nak q => exact ⟨fun t => t.within h fun u => u.takeNakFrame q, fun _ => rfl, fun _ _ unheard => State.within_unheard unheard _⟩
  | finish n => exact ⟨fun t => t.within h fun u => u.takeFinishFrame n, fun _ => rfl, fun _ _ unheard => State.within_unheard unheard _⟩
  | disconnect r o => exact ⟨fun t => t.within h fun u => u.takeDisconnectFrame r o, fun _ => rfl, fun _ _ unheard => State.within_unheard unheard _⟩
  | endConnection => exact ⟨fun t => t.within h fun u => u.takeEnd, fun _ => rfl, fun _ _ unheard => State.within_unheard unheard _⟩
  | abort r => exact ⟨fun t => t.within h fun u => u.takeAbort r, fun _ => rfl, fun _ _ unheard => State.within_unheard unheard _⟩

/-- Settles O35: reception by the station's state, and frames of no open connection. -/
theorem framesDiscarded : Obligations.FramesDiscarded := by
  refine ⟨fun s h op win q r o n p sn => ?_, fun bytes s bad => next_congr (by rw [bad])⟩
  intro connection reported
  refine ⟨fun empty deaf c member => ?_, fun delivers busy unheard c member wf => ?_⟩
  · have same (b : Option Body) : (.next (s.receive h b) : Result) = .next s := next_congr (State.receive_deaf empty deaf h b)
    simp only [connection, List.cons_append, List.nil_append, List.mem_cons, List.not_mem_nil, or_false] at member
    rcases member with rfl | rfl | rfl | rfl | rfl | rfl | rfl | rfl | rfl | rfl | rfl | rfl | rfl | rfl <;> exact same _
  · have report {b : Option Body} (some : b.isSome = true) (kind : ∀ x, b = Option.some x → x.isRollCall = false) :
        (.next (s.receive h b) : Result) = .next reported.pump.drainTest := by
      obtain ⟨x, rfl⟩ := Option.isSome_iff_exists.mp some
      obtain ⟨deliver, taken, discards⟩ := State.takeFrame_connection h (kind x rfl)
      refine next_congr ?_
      rw [State.receive, State.receiveFrame_of_receives _ _ delivers.1, taken, State.hear_delivered _ _ _ (by exact delivers),
        State.yieldPath_eq, discards _ (by exact busy) (by exact unheard)]
      rfl
    have carries {α : Type} {x : Option α} {g : α → Body} (some : x.isSome = true) (kind : ∀ a, (g a).isRollCall = false) :
        (.next (s.receive h (x.map g)) : Result) = .next reported.pump.drainTest :=
      report (by rw [Option.isSome_map]; exact some) fun y found => by
        obtain ⟨a, -, rfl⟩ := Option.map_eq_some_iff.mp found
        exact kind a
    simp only [connection, List.mem_cons, List.not_mem_nil, or_false] at member
    rcases member with rfl | rfl | rfl | rfl | rfl | rfl | rfl | rfl | rfl | rfl | rfl | rfl <;>
      simp only [Instr.wf, Bool.and_eq_true, and_assoc] at wf
    · exact report rfl fun x found => by cases found; rfl
    · exact carries wf.2 fun _ => rfl
    · exact carries wf.2 fun _ => rfl
    · obtain ⟨-, seq, load⟩ := wf
      obtain ⟨a, read⟩ := Option.isSome_iff_exists.mp seq
      exact (congrArg (fun x => (.next (s.receive h (Option.bind x fun a => (payloadField? p).map (Body.data a ·))) : Result))
        read).trans (carries load fun _ => rfl)
    · exact carries wf.2 fun _ => rfl
    · exact carries wf.2 fun _ => rfl
    · exact carries wf.2 fun _ => rfl
    · obtain ⟨-, reason, offset⟩ := wf
      obtain ⟨a, read⟩ := Option.isSome_iff_exists.mp reason
      exact (congrArg (fun x => (.next (s.receive h (Option.bind x fun a => (offsetField? o).map (Body.disconnect a ·))) : Result))
        read).trans (carries offset fun _ => rfl)
    · exact report rfl fun x found => by cases found; rfl
    · exact carries wf.2 fun _ => rfl
    · exact carries wf.2 fun _ => rfl
    · exact carries wf.2 fun _ => rfl

/-! ### FINISH and DISCONNECT at the initiator (R93, R94, R96) -/

theorem offsetField?_of_le {w : Word} (range : w.toNat ≤ Config.maxLength) : offsetField? w = some w.toNat := if_pos range

theorem exec_finishReceived (s : State) (h : FrameHead) {total : Word} (least : 1 ≤ total.toNat)
    (most : total.toNat ≤ Config.maxLength) :
    exec (.finishReceived h total) s = .next (s.receive h (some (.finish total.toNat))) :=
  congrArg (fun b => (.next (s.receive h (Option.map Body.finish b)) : Result)) (if_pos ⟨least, most⟩)

theorem exec_disconnectReceived (s : State) (h : FrameHead) (r : DisconnectReason) {offset : Word}
    (range : offset.toNat ≤ Config.maxLength) :
    exec (.disconnectReceived h r.code offset) s = .next (s.receive h (some (.disconnect r offset.toNat))) :=
  (congrArg (fun x => (.next (s.receive h (Option.bind x fun a => (offsetField? offset).map (Body.disconnect a ·))) : Result))
    (DisconnectReason.ofCode?_code r)).trans
    (congrArg (fun b => (.next (s.receive h (Option.map (Body.disconnect r) b)) : Result)) (offsetField?_of_le range))

theorem exec_withdrawReceived (s : State) (h : FrameHead) (r : WithdrawReason) :
    exec (.withdrawReceived h r.code) s = .next (s.receive h (some (.withdraw r))) :=
  congrArg (fun b => (.next (s.receive h (Option.map Body.withdraw b)) : Result)) (WithdrawReason.ofCode?_code r)

theorem exec_resumeReceived (s : State) (h : FrameHead) {offset : Word} (range : offset.toNat ≤ Config.maxLength) :
    exec (.resumeReceived h offset) s = .next (s.receive h (some (.resume offset.toNat))) :=
  congrArg (fun b => (.next (s.receive h (Option.map Body.resume b)) : Result)) (offsetField?_of_le range)

theorem exec_acceptReceived (s : State) (h : FrameHead) {offset : Word} (range : offset.toNat ≤ Config.maxLength) :
    exec (.acceptReceived h offset) s = .next (s.receive h (some (.accept offset.toNat))) :=
  congrArg (fun b => (.next (s.receive h (Option.map Body.accept b)) : Result)) (offsetField?_of_le range)

/-- The Engine after an initiator has settled its exchange and answered END (R93, R94; log 52). -/
def Engine.answered (e : Engine) : Engine :=
  { e with
    phase := .closing, endSent := true, closing := none, unacked := [], ackDue := false, answerTimer := none
    ackTimer := none, silenceTimer := none, closeTimer := none }

/-- The station after an initiator has settled its exchange, but for the frames: mover and walker have given up (R151). -/
def State.settledEnd (s : State) : State :=
  { s with
    engine := s.engine.answered, mover := { s.mover with buffer := none, stores := [], fetch := none }, port := s.port.giveUp }

theorem State.answerEnd_yielding {s : State} (path : s.bus.isOpen) (frames : List Frame) :
    (s.yielding frames).answerEnd =
      s.settledEnd.atTurn (frames.filter Frame.ofStationControl ++ [s.connFrame .endConnection]) :=
  State.sendBody_yielding (s := s.settledEnd) path (frames.filter Frame.ofStationControl) .endConnection

theorem State.endAgain_yielding {s : State} (path : s.bus.isOpen) (frames : List Frame) :
    (s.yielding frames).endAgain = s.atTurn (frames.filter Frame.ofStationControl ++ [s.connFrame .endConnection]) :=
  State.sendBody_yielding path (frames.filter Frame.ofStationControl) .endConnection

/-- The turn of a side in CLOSING does not look at the slots. -/
theorem State.atTurn_sched {s : State} (closing : s.engine.phase = .closing) (c : Scheduler) (frames : List Frame) :
    ({ s.atTurn frames with sched := c } : State) = ({ s with sched := c } : State).atTurn frames := by
  have cause (t : State) (phase : t.engine.phase = .closing) : t.abortCause? = t.engine.abortDue := by
    unfold State.abortCause?
    cases due : t.engine.abortDue with
    | some c => rfl
    | none => simp [phase]
  have same : ({ s with sched := c } : State).abortCause? = s.abortCause? := (cause { s with sched := c } closing).trans (cause s closing).symm
  cases frames with
  | nil =>
    have none (t : State) (phase : t.engine.phase = .closing) : t.closingDue? = none := State.closingDue?_eq_none (.inr phase)
    simp only [State.atTurn, none s closing, none { s with sched := c } closing]
  | cons f rest =>
    simp only [State.atTurn, same]
    split <;> rfl

/-- END answered, and the slot settled behind it (R93, R94). -/
theorem State.answerEnd_sched {s : State} (path : s.bus.isOpen) (frames : List Frame) (c : Scheduler) :
    ({ (s.yielding frames).answerEnd with sched := c } : State) = ({ s.settledEnd with sched := c } : State).atTurn
      (frames.filter Frame.ofStationControl ++ [s.connFrame .endConnection]) := by
  rw [State.answerEnd_yielding path, State.atTurn_sched rfl]

theorem State.answerEnd_slot {s : State} (path : s.bus.isOpen) (frames : List Frame) :
    (s.yielding frames).answerEnd.sched = s.sched := by
  rw [State.answerEnd_yielding path, State.atTurn_bus]
  rfl

theorem State.answerEnd_span {s : State} (path : s.bus.isOpen) (frames : List Frame) :
    (s.yielding frames).answerEnd.resumeSpan = s.resumeSpan := by
  rw [State.answerEnd_yielding path, State.atTurn_bus]
  rfl

theorem Engine.inTenure_of {e : Engine} (phase : e.phase = .sending ∨ e.phase = .receiving ∨ e.phase = .awaitingFinish)
    (none : e.abortDue = none) : e.inTenure = true := by
  rcases phase with phase | phase | phase <;> simp [Engine.inTenure, phase, none]

theorem Engine.not_awaits {e : Engine} (phase : e.phase ≠ .calling) : e.awaitsAnswer = false := by
  simp [Engine.awaitsAnswer, phase]

theorem Engine.not_inTenure {e : Engine} (phase : e.phase = .closing) : e.inTenure = false := by
  simp [Engine.inTenure, phase]

/-- The first cause of an ABORT, in a station that settles a frame (R97). -/
theorem State.abortFor_yielding {s : State} (none : s.engine.abortDue = none) (frames : List Frame) (c : AbortCause) :
    (s.yielding frames).abortFor c =
      ({ s with engine := { s.engine with abortDue := some c } } : State).yielding frames := by
  simp only [State.abortFor, State.yielding, none, Option.none_or]

/-- The offset of a DISCONNECT agrees with the initiator's progress, or with a frame of its list (R94). -/
theorem State.offsetAgrees_iff {s : State} (data : s.engine.op ≠ .note) (o : Nat) :
    s.offsetAgrees o = true ↔ o = s.ownSlot.progress ∨ (s.engine.op = .write ∧ o ≤ s.engine.sendPos ∧
      (s.engine.unacked.find? fun f => f.pos + f.len = o).isSome = true) := by
  unfold State.offsetAgrees
  cases op : s.engine.op with
  | note => exact absurd op data
  | read => simp
  | write => simp [List.find?_isSome]

/-- A side that answers END with its slot settled behind it has taken the frame (R93, R94). -/
theorem State.receive_ended {s : State} {h : FrameHead} (delivers : s.delivers h) (hears : s.engine.hears h = true)
    {b : Body} {take : State → State} (kind : ∀ t : State, t.takeFrame ⟨h, b⟩ = t.hear h fun u => u.within h take)
    {before after : Scheduler}
    (taken : take ((s.heardFrom h).yielding s.waiting) =
      { (({ s.heardFrom h with sched := before } : State).yielding s.waiting).answerEnd with sched := after }) :
    s.receive h (some b) = ({ (s.heardFrom h).settledEnd with sched := after } : State).atTurn
      (s.waiting.filter Frame.ofStationControl ++ [s.connFrame .endConnection]) := by
  refine State.receive_busy_answered delivers hears kind (taken.trans ?_) (fun idle => nomatch idle)
  exact State.answerEnd_sched (s := ({ s.heardFrom h with sched := before } : State)) (State.open_of_delivers delivers) _ _

theorem State.finishSlot_of_sched {s : State} {c : Scheduler} {i : SlotId} (sched : s.sched = c)
    (live : (c.slot i).state.live = true) (o : ExchangeOutcome) :
    s.finishSlot i o = { s with sched := c.ended i o ((c.slot i).more o) } := by
  subst sched
  exact s.finishSlot_eq i o live

theorem Scheduler.put_put (c : Scheduler) (i : SlotId) (x y : Slot) : (c.put i x).put i y = c.put i y := by
  simp [Scheduler.put, Vector.set_set]

/-- A slot waits to be resumed (R16, R103). -/
theorem State.disconnectSlot_of_sched {s : State} {c : Scheduler} {i : SlotId} (sched : s.sched = c)
    (isOpen : (c.slot i).state = .selected ∨ (c.slot i).state = .active) :
    s.disconnectSlot i =
      { s with sched := c.put i { c.slot i with state := .disconnected, deadline := some s.resumeSpan } } := by
  subst sched
  exact if_pos isOpen

/-- The slot of a connection that is closed by DISCONNECT waits, or ends CANCELLED when a cancel is pending (R14, R16, R19, R20). -/
theorem State.heldSlot_of_sched {s : State} {c : Scheduler} {i : SlotId} {n : Nat} (sched : s.sched = c)
    (span : s.resumeSpan = n)
    (isOpen : (c.slot i).state = .selected ∨ (c.slot i).state = .active) :
    (if (s.slot i).cancelRequested then s.finishSlot i .cancelled else s.disconnectSlot i) =
      { s with sched := if (c.slot i).cancelRequested then c.ended i .cancelled
                        else c.put i { c.slot i with state := .disconnected, deadline := some n } } := by
  subst span
  have live : (c.slot i).state.live = true := by rcases isOpen with state | state <;> rw [state] <;> rfl
  have slot : s.slot i = c.slot i := congrArg (Scheduler.slot · i) sched
  rw [slot]
  split
  · subst sched
    exact State.finishSlot_of_live live (by decide)
  · exact State.disconnectSlot_of_sched sched isOpen

/-- The confirmed cursor of an initiator's exchange is its slot's (R148). -/
theorem State.confirmedCursor_initiator {s : State} (role : s.engine.role = .initiator) :
    s.confirmedCursor = s.ownSlot.cursor := by
  simp only [State.confirmedCursor, role]

/-- Progress of an initiator's exchange is its slot's (R15, R148). -/
theorem State.progressTo_initiator {s : State} (role : s.engine.role = .initiator) (p : Nat) (c : Cursor) :
    s.progressTo p c = { s with sched := s.sched.put s.engine.tag.slot { s.ownSlot with
      progress := max s.ownSlot.progress p, cursor := if s.ownSlot.form = .list then c else s.ownSlot.cursor } } := by
  simp only [State.progressTo, role]
  rfl

/-- Settles O41: the exchange is settled and END answered, or ABORT(LINK) is due; a repeated closing frame draws END again. -/
theorem finishAndDisconnectTaken : Obligations.FinishAndDisconnectTaken := by
  refine ⟨fun s h total delivers hears tenure none role least most => ?_, fun s h reason offset delivers hears role none range => ?_,
    fun s h total offset reason delivers hears closing ended answering least most range => ?_⟩
  · intro i x moved active x'
    have kind : ∀ t : State, t.takeFrame ⟨h, .finish total.toNat⟩ =
        t.hear h fun u => u.within h fun v => v.takeFinishFrame total.toNat := fun _ => rfl
    have taken : (x'.yielding s.waiting).takeFinishFrame total.toNat = (x'.yielding s.waiting).takeFinish total.toNat :=
      if_pos ⟨Engine.inTenure_of tenure none, role⟩
    have accepted : (x'.yielding s.waiting).finishAccepted total.toNat = true ↔ moved := by
      simp only [State.finishAccepted, Bool.and_eq_true, decide_eq_true_eq, moved]
      exact and_congr_right fun _ => by
        by_cases read : s.engine.op = .read
        · rw [if_pos read]
          exact (Bool.eq_iff_iff.mp (if_pos read)).trans decide_eq_true_iff
        · rw [if_neg read]
          exact (Bool.eq_iff_iff.mp (if_neg read)).trans decide_eq_true_iff
    let y : Slot := { x with
      progress := max x.progress s.engine.length
      cursor := if x.form = .list then s.engine.unacked.getLast?.elim x.cursor (·.endCursor) else x.cursor }
    have put : (s.sched.put i y).slot i = y := (Scheduler.slot_put ..).trans (if_pos rfl)
    rw [exec_finishReceived s h least most]
    refine ⟨fun not => next_congr (State.receive_busy delivers hears kind ?_ rfl (by exact Engine.open_of_hears hears)),
      fun all => next_congr ((State.receive_ended delivers hears kind (before := s.sched.put i y) ?_).trans rfl)⟩
    · rw [taken, State.takeFinish, if_neg (by rw [accepted]; exact not)]
      exact State.abortFor_yielding (s := x') none _ _
    · rw [taken, State.takeFinish, if_pos (accepted.mpr all), State.progressTo_initiator (by exact role)]
      have live : ((s.sched.put i y).slot i).state.live = true := by
        rw [put, show y.state = .active from active]
        rfl
      have more : ((s.sched.put i y).slot i).more .done = x.moreAfterDone := by
        rw [put, Slot.more_eq]
        exact Bool.true_and _
      have cursor : (x'.yielding s.waiting).confirmedCursor = x.cursor :=
        State.confirmedCursor_initiator (by exact role)
      rw [cursor]
      refine (State.finishSlot_of_sched (State.answerEnd_slot (s := ({ x' with sched := s.sched.put i y } : State))
        (State.open_of_delivers delivers) s.waiting) live .done).trans ?_
      rw [more]
  · intro c o i x ends waits
    have kind : ∀ t : State, t.takeFrame ⟨h, .disconnect reason o⟩ =
        t.hear h fun u => u.within h fun v => v.takeDisconnectFrame reason o := fun _ => rfl
    let x' := s.heardFrom h
    have ended {before after : Scheduler} (taken : (x'.yielding s.waiting).takeDisconnectFrame reason o =
        { (({ x' with sched := before } : State).yielding s.waiting).answerEnd with sched := after }) :
        exec c s = .next (ends after) :=
      (exec_disconnectReceived s h reason range).trans (next_congr ((State.receive_ended delivers hears kind taken).trans rfl))
    have answered (before : Scheduler) : (({ x' with sched := before } : State).yielding s.waiting).answerEnd.sched = before :=
      State.answerEnd_slot (s := ({ x' with sched := before } : State)) (State.open_of_delivers delivers) s.waiting
    have span (before : Scheduler) : (({ x' with sched := before } : State).yielding s.waiting).answerEnd.resumeSpan =
        64 * s.settings.resumeDeadline :=
      State.answerEnd_span (s := ({ x' with sched := before } : State)) (State.open_of_delivers delivers) s.waiting
    refine ⟨fun tenure data active => ?_, fun calling timer purpose held selected => ?_⟩
    · intro last agrees y
      have taken : (x'.yielding s.waiting).takeDisconnectFrame reason o = (x'.yielding s.waiting).takeDisconnect o := by
        refine (if_neg fun both => ?_).trans (if_pos ⟨Engine.inTenure_of tenure none, role, data⟩)
        rw [Engine.not_awaits (by rcases tenure with phase | phase | phase <;> rw [show (x'.yielding s.waiting).engine.phase = _ from phase] <;> decide)] at both
        exact Bool.false_ne_true both.1
      have agrees_iff : (x'.yielding s.waiting).offsetAgrees o = true ↔ agrees := State.offsetAgrees_iff (by exact data) o
      refine ⟨fun yes => ?_, fun no => ?_⟩
      · have put : (s.sched.put i y).slot i = y := (Scheduler.slot_put ..).trans (if_pos rfl)
        have state : ((s.sched.put i y).slot i).state = .active := by rw [put]; exact active
        refine ended (before := s.sched.put i y) ?_
        rw [taken, State.takeDisconnect, if_pos (agrees_iff.mpr yes)]
        dsimp only
        rw [State.progressTo_initiator (by exact role), State.confirmedCursor_initiator (by exact role)]
        refine (State.heldSlot_of_sched (answered (s.sched.put i y)) (span (s.sched.put i y)) (.inr state)).trans ?_
        rw [put, Scheduler.put_put]
      · refine (exec_disconnectReceived s h reason range).trans
          (next_congr (State.receive_busy delivers hears kind ?_ rfl (by exact Engine.open_of_hears hears)))
        rw [taken, State.takeDisconnect, if_neg (by rw [agrees_iff]; exact no)]
        exact State.abortFor_yielding (s := x') none _ _
    · have taken : (x'.yielding s.waiting).takeDisconnectFrame reason o = (x'.yielding s.waiting).answerEnd.callHeld i :=
        (if_pos ⟨Engine.awaitsAnswer_of calling timer, purpose⟩).trans (if_pos held)
      refine ended (before := s.sched) ?_
      rw [taken]
      have slot : (x'.yielding s.waiting).answerEnd.slot i = x := congrArg (Scheduler.slot · i) (answered s.sched)
      refine (if_neg (by rw [slot]; exact not_not_intro selected)).trans ?_
      exact (State.heldSlot_of_sched (answered s.sched) (span s.sched) (.inl selected)).trans rfl
  · have path : (s.heardFrom h).bus.isOpen := State.open_of_delivers delivers
    have again : ((s.heardFrom h).yielding s.waiting).engine.afterEnd = true := by
      simp [Engine.afterEnd, State.yielding, State.heardFrom, closing, ended, answering]
    have quiet : ((s.heardFrom h).yielding s.waiting).engine.inTenure = false := Engine.not_inTenure closing
    have silent : ((s.heardFrom h).yielding s.waiting).engine.awaitsAnswer = false :=
      Engine.not_awaits (by rw [show ((s.heardFrom h).yielding s.waiting).engine.phase = _ from closing]; decide)
    intro c member
    rcases List.mem_pair.mp member with rfl | rfl
    · refine (exec_finishReceived s h least most).trans (next_congr (State.receive_busy_answered delivers hears (fun _ => rfl)
        (take := fun u => u.takeFinishFrame total.toNat) ?_ (by exact Engine.open_of_hears hears)))
      simp only [State.takeFinishFrame, quiet, again, Bool.false_eq_true, false_and, if_false, if_true]
      exact State.endAgain_yielding path _
    · refine (exec_disconnectReceived s h reason range).trans (next_congr (State.receive_busy_answered delivers hears (fun _ => rfl)
        (take := fun u => u.takeDisconnectFrame reason offset.toNat) ?_ (by exact Engine.open_of_hears hears)))
      simp only [State.takeDisconnectFrame, quiet, again, silent, Bool.false_eq_true, false_and, if_false, if_true]
      exact State.endAgain_yielding path _

/-! ### RESUME and WITHDRAW at an IDLE Engine (R17, R96, R104, R110, R119) -/

/-- A delivered frame is settled by `deliver` on a station that has reported its source and gives way (R53, R58, R163). -/
theorem State.receive_delivered {s : State} {h : FrameHead} (delivers : s.delivers h) {b : Body} {deliver : State → State}
    (kind : ∀ t : State, t.takeFrame ⟨h, b⟩ = t.hear h deliver) :
    s.receive h (some b) = (deliver { s with
      station := s.station.heard h.src
      bus := { s.bus with received := none, driving := none, outbox := s.waiting } }).pump.drainTest := by
  rw [State.receive, State.receiveFrame_of_receives _ _ delivers.1, kind, State.hear_delivered _ _ _ (by exact delivers),
    State.yieldPath_eq]
  rfl

/-- A call that an IDLE Engine has taken and answered ends with the answer (R82). -/
theorem State.receive_call_answered {s t : State} {h : FrameHead} (delivers : s.delivers h) {b : Body}
    {frames : List Frame} {deliver : State → State} (kind : ∀ t : State, t.takeFrame ⟨h, b⟩ = t.hear h deliver)
    (taken : deliver { s with
      station := s.station.heard h.src
      bus := { s.bus with received := none, driving := none, outbox := s.waiting } } = t.atTurn frames)
    (busy : t.engine.phase ≠ .idle) : s.receive h (some b) = t.atTurn frames := by
  rw [State.receive_delivered delivers kind, taken, State.pump_of_atTurn, State.drainTest_atTurn busy]

theorem State.matchesWait_iff (s : State) (h : FrameHead) :
    s.matchesWait h = true ↔ (s.slot h.slot).state = .disconnected ∧ h.gen = (s.slot h.slot).gen ∧ h.src = (s.slot h.slot).peer := by
  simp [State.matchesWait, and_assoc]

/-- Settles O43: the match of R104 and its answers, and a WITHDRAW that comes again. -/
theorem resumeAndWithdrawTaken : Obligations.ResumeAndWithdrawTaken := by
  refine ⟨fun s h offset reason delivers idle range => ?_, fun s h reason delivers hears closing ended answering => ?_⟩
  · intro i x matching answering taken answer
    have path : s.bus.isOpen := State.open_of_delivers delivers
    let u : State := { s with
      station := s.station.heard h.src, bus := { s.bus with received := none, driving := none, outbox := s.waiting } }
    have resume : u.takeCall h (.resume offset.toNat) = u.takeResume h offset.toNat := if_pos idle
    have withdraw : u.takeCall h (.withdraw reason) = u.takeWithdraw h reason := if_pos idle
    have matched : u.matchesWait h = true ↔ matching := u.matchesWait_iff h
    have live (disconnected : x.state = .disconnected) : x.state.live = true := by rw [disconnected]; rfl
    have finished {o : ExchangeOutcome} {p : Purpose} (disconnected : x.state = .disconnected) (undone : o ≠ .done) :
        ((taken p).yielding s.waiting).finishSlot i o =
          ({ taken p with sched := s.sched.ended i o } : State).yielding s.waiting :=
      State.finishSlot_of_live (live disconnected) undone
    have resumes {t : State} {frames : List Frame} (settled : u.takeResume h offset.toNat = t.atTurn frames)
        (busy : t.engine.phase ≠ .idle) : exec (.resumeReceived h offset) s = .next (t.atTurn frames) :=
      (exec_resumeReceived s h range).trans (next_congr (State.receive_call_answered delivers (fun _ => rfl)
        (deliver := fun t => t.takeCall h (.resume offset.toNat)) (resume.trans settled) busy))
    have withdraws {t : State} {frames : List Frame} (settled : u.takeWithdraw h reason = t.atTurn frames)
        (busy : t.engine.phase ≠ .idle) : exec (.withdrawReceived h reason.code) s = .next (t.atTurn frames) :=
      (exec_withdrawReceived s h reason).trans (next_congr (State.receive_call_answered delivers (fun _ => rfl)
        (deliver := fun t => t.takeCall h (.withdraw reason)) (withdraw.trans settled) busy))
    refine ⟨fun same agrees => resumes ?_ (fun idle => nomatch idle), fun same differs => resumes ?_ (fun idle => nomatch idle),
      fun same => withdraws ?_ (fun idle => nomatch idle), fun other => ⟨resumes ?_ (fun idle => nomatch idle),
      withdraws ?_ (fun idle => nomatch idle)⟩⟩
    · have active : ((taken .resume).yielding s.waiting).activateSlot i =
          ({ taken .resume with sched := s.sched.put i { x with state := .active, deadline := none } } : State).yielding
            s.waiting := if_pos (.inr same.1)
      refine (if_pos (matched.mpr same)).trans ((if_pos agrees).trans ?_)
      exact (congrArg (fun t : State => t.sendBody (.accept x.progress)) active).trans (State.sendBody_yielding (by exact path) _ _)
    · refine (if_pos (matched.mpr same)).trans ((if_neg differs).trans ?_)
      exact (congrArg (fun t : State => t.refuse .offset) (finished same.1 (by decide))).trans
        (State.sendBody_yielding (by exact path) _ _)
    · refine (if_pos (matched.mpr same)).trans ?_
      have ended := finished (o := .withdrawn reason) (p := .withdraw) same.1 (fun done => nomatch done)
      exact (congrArg State.answerEnd ended).trans (State.answerEnd_yielding (by exact path) _)
    · exact (if_neg (by exact fun is => other (matched.mp is))).trans (State.sendBody_yielding (s := taken .resume) path _ _)
    · exact (if_neg (by exact fun is => other (matched.mp is))).trans (State.sendBody_yielding (s := taken .withdraw) path _ _)
  · have busy : s.engine.phase ≠ .idle := by rw [closing]; decide
    have again : ((s.heardFrom h).yielding s.waiting).engine.afterEnd = true := by
      simp [Engine.afterEnd, State.yielding, State.heardFrom, closing, ended, answering]
    refine (exec_withdrawReceived s h reason).trans (next_congr (State.receive_call_answered delivers (fun _ => rfl)
      (deliver := fun t => t.takeCall h (.withdraw reason)) ?_ (by exact busy)))
    refine (if_neg busy).trans ((if_pos (by exact hears)).trans ?_)
    exact (if_pos again).trans (State.endAgain_yielding (s := s.heardFrom h) (State.open_of_delivers delivers) _)

end Sys2Proof.Machine
end

section
/-! CONNECT taken by an IDLE Engine (O36). -/

namespace Sys2Proof.Machine

/-! ### The request of a CONNECT, and its checks (R32) -/

theorem requestOf?_bad {operation window : Byte} {n : Nat}
    (bad : operation.toNat = 0 ∨ 3 < operation.toNat ∨ n = 0 ∨ (operation.toNat = 3 ∧ 32 < n) ∨
      (operation.toNat ≠ 3 ∧ 7 < window.toNat)) : requestOf? operation window n = none := by
  by_cases note : operation.toNat = 3
  · simp only [requestOf?, note, Operation.ofCode?]
    exact if_neg (by simp only [Config.maxNote]; omega)
  · by_cases data : operation.toNat = 1 ∨ operation.toNat = 2
    · have outside : ¬ (1 ≤ n ∧ window.toNat < 8) := by omega
      rcases data with code | code <;> simp only [requestOf?, code, Operation.ofCode?, outside, dif_neg, not_false_iff]
    · have unknown : Operation.ofCode? operation.toNat = none := by
        unfold Operation.ofCode?
        split <;> simp_all
      simp only [requestOf?, unknown]

theorem requestOf?_note {operation window : Byte} {n : Nat} (note : operation.toNat = 3) (least : n ≠ 0) (most : n ≤ 32) :
    requestOf? operation window n = some (.note, none) := by
  simp only [requestOf?, note, Operation.ofCode?]
  exact if_pos ⟨Nat.one_le_iff_ne_zero.mpr least, most⟩

theorem requestOf?_data {operation window : Byte} {n : Nat} {w : WindowId}
    (code : operation.toNat = 1 ∨ operation.toNat = 2) (least : n ≠ 0) (named : w.val = window.toNat) :
    requestOf? operation window n = some (if operation.toNat = 1 then .read else .write, some w) := by
  have inside : 1 ≤ n ∧ window.toNat < 8 := ⟨Nat.one_le_iff_ne_zero.mpr least, named ▸ w.isLt⟩
  have same : (⟨window.toNat, inside.2⟩ : WindowId) = w := Fin.ext named.symm
  rcases code with code | code <;>
    simp [requestOf?, Operation.ofCode?, code, inside, same]

theorem State.freePlace_iff (s : State) : s.freePlace = true ↔ s.notes.stored.length + s.notes.reserved.toNat +
    (s.service.entries.filter (·.reservation)).length < 16 := by
  rw [Nat.add_assoc]
  exact decide_eq_true_iff

theorem requestOf?_data_code {operation : Byte} : (if operation.toNat = 1 then Operation.read else .write) = .read ↔ operation.toNat = 1 := by
  split <;> simp [*]

/-! ### The answer (R31, R33, R34, R82) -/

/-- What a CONNECT does to the host's flags and the Service Table: the entry of its key is dropped, and one may be new. -/
theorem State.takeConnect_tables (s : State) (h : FrameHead) (operation window : Byte) (offset length : Nat) :
    (s.takeConnect h operation window offset length).host = (s.dropEntry (keyOf h)).host ∧
      ∃ es, (s.takeConnect h operation window offset length).service.entries = (s.dropEntry (keyOf h)).service.entries ++ es ∧
        ∀ e ∈ es, e.progress = 0 ∧ e.noAnswers = 0 ∧ (e.state = .connected ∨ e.state = .parked) := by
  have new (u : State) (o : Operation) (w : WindowId) : ∀ e ∈ [u.newEntry (keyOf h) o w offset length],
      e.progress = 0 ∧ e.noAnswers = 0 ∧ (e.state = .connected ∨ e.state = .parked) := by
    intro e mem
    rw [List.mem_singleton.mp mem]
    refine ⟨rfl, rfl, ?_⟩
    unfold State.newEntry
    dsimp only
    split <;> simp
  have none : ∀ e ∈ ([] : List Entry), e.progress = 0 ∧ e.noAnswers = 0 ∧ (e.state = .connected ∨ e.state = .parked) :=
    fun _ mem => nomatch mem
  unfold State.takeConnect
  dsimp only
  split
  · exact ⟨by simp, [], by simp, none⟩
  · split
    · exact ⟨by simp, [], by simp, none⟩
    · split
      · exact ⟨by simp, [], by simp, none⟩
      · exact ⟨by simp, [], by simp, none⟩
    · split
      · exact ⟨by simp, [], by simp, none⟩
      · split
        · exact ⟨by simp, _, by simp [State.addEntry]; rfl, new _ _ _⟩
        · exact ⟨by simp, _, by simp [State.addEntry]; rfl, new _ _ _⟩

theorem State.entries_drainTest (s : State) : s.drainTest.service.entries = s.service.entries := by
  rcases s.drainTest_cases with ⟨_, same⟩ | ⟨_, offline⟩
  · rw [same]
  · rw [offline]
    rfl

theorem State.flag_drainTest {s : State} {e : Event} (raised : s.flag e = true) : s.drainTest.flag e = true := by
  rcases s.drainTest_cases with ⟨_, same⟩ | ⟨_, offline⟩
  · rw [same]
    exact raised
  · rw [offline]
    exact (s.flag_raise .stateChanged e).trans (by rw [raised]; rfl)

section
variable {s : State} {h : FrameHead} {operation window : Byte} {offset length : Nat}

/-- A LEAVING station refuses every CONNECT. -/
theorem State.takeConnect_leaving (fresh : s.entry? (keyOf h) = none) (leaving : s.station.state = .leaving) :
    s.takeConnect h operation window offset length = (s.answerContext h .target .connect .read length).refuse .leaving := by
  simp only [State.takeConnect, State.dropEntry_of_none _ _ fresh, leaving, if_true]

theorem State.takeConnect_bad (fresh : s.entry? (keyOf h) = none) (online : s.station.state = .online)
    (bad : requestOf? operation window length = none) :
    s.takeConnect h operation window offset length = (s.answerContext h .target .connect .read length).refuse .badRequest := by
  simp only [State.takeConnect, State.dropEntry_of_none _ _ fresh, online, bad, reduceCtorEq, if_false]

theorem State.takeConnect_note (fresh : s.entry? (keyOf h) = none) (online : s.station.state = .online)
    (request : requestOf? operation window length = some (.note, none)) :
    s.takeConnect h operation window offset length = match s.noteRefusal? h.src with
      | some r => (s.answerContext h .target .connect .note length).refuse r
      | none => ({ s.answerContext h .target .connect .note length with
          notes := { s.notes with reserved := true } } : State).sendBody (.accept 0) := by
  simp only [State.takeConnect, State.dropEntry_of_none _ _ fresh, online, request, reduceCtorEq, if_false] <;> rfl

theorem State.takeConnect_refused {o : Operation} {w : WindowId} {r : RefuseReason} (fresh : s.entry? (keyOf h) = none)
    (online : s.station.state = .online) (request : requestOf? operation window length = some (o, some w))
    (refusal : s.windowRefusal? h.src o (s.window w) offset length = some r) :
    s.takeConnect h operation window offset length = (s.answerContext h .target .connect o length).refuse r := by
  simp only [State.takeConnect, State.dropEntry_of_none _ _ fresh, online, request, refusal, reduceCtorEq, if_false]

theorem State.takeConnect_entered {o : Operation} {w : WindowId} (fresh : s.entry? (keyOf h) = none)
    (online : s.station.state = .online) (request : requestOf? operation window length = some (o, some w))
    (passed : s.windowRefusal? h.src o (s.window w) offset length = none) :
    s.takeConnect h operation window offset length =
      let t := (s.answerContext h .target .connect o length).addEntry (s.newEntry (keyOf h) o w offset length)
      if (s.window w).hold = .ready then t.sendBody (.accept 0) else t.close (.disconnect .held 0) := by
  simp only [State.takeConnect, State.dropEntry_of_none _ _ fresh, online, request, passed, reduceCtorEq, if_false]
  rfl

end

/-- The entry of a READ or a WRITE on a READY window (R34). -/
theorem State.newEntry_ready {s : State} {w : WindowId} (ready : (s.window w).hold = .ready) (k : Key) (o : Operation)
    (offset length : Nat) : s.newEntry k o w offset length =
      { key := k, op := o, window := w, offset := offset, length := length, progress := 0, state := .connected
        parkTimer := none, noAnswers := 0, reservation := o = .write && (s.window w).announce, withdrawReason := none
        stamp := none } := by
  simp only [State.newEntry, ready, decide_true, if_true]

theorem State.newEntry_parked {s : State} {w : WindowId} (not : (s.window w).hold ≠ .ready) (k : Key) (o : Operation)
    (offset length : Nat) : s.newEntry k o w offset length =
      { key := k, op := o, window := w, offset := offset, length := length, progress := 0, state := .parked
        parkTimer := some s.parkSpan, noAnswers := 0, reservation := o = .write && (s.window w).announce
        withdrawReason := none, stamp := some (parkedCount s.service.entries + 1) } := by
  simp only [State.newEntry, not, decide_false, Bool.false_eq_true, if_false]

/-- Settles O36: the checks in order, and the answer with the entry or the reservation that it makes. -/
theorem connectAnswered : Obligations.ConnectAnswered := by
  intro s h operation window offset length delivers idle c k op o n place bad answering taken sends refused
  have path : s.bus.isOpen := State.open_of_delivers delivers
  let u : State := { s with
    station := s.station.heard h.src, bus := { s.bus with received := none, driving := none, outbox := s.waiting } }
  have connects : u.takeCall h (.connect operation window offset length) = u.takeConnect h operation window o n := if_pos idle
  refine ⟨fun fresh => ?_, fun e found => ?_⟩
  · have answers {t : State} {frames : List Frame} (settled : u.takeConnect h operation window o n = t.atTurn frames)
        (busy : t.engine.phase ≠ .idle) : exec c s = .next (t.atTurn frames) :=
      next_congr (State.receive_call_answered delivers (fun _ => rfl)
        (deliver := fun t => t.takeCall h (.connect operation window offset length)) (connects.trans settled) busy)
    have refuses {q : RefuseReason} {x : Operation} (settled : u.takeConnect h operation window o n =
        ((taken x).yielding s.waiting).refuse q) : refused q :=
      ⟨x, answers (settled.trans (State.sendBody_yielding (by exact path) _ _)) (fun idle => nomatch idle)⟩
    refine ⟨fun leaving => refuses (State.takeConnect_leaving fresh leaving), fun online isBad =>
      refuses (State.takeConnect_bad fresh online (requestOf?_bad isBad)), fun online good note => ?_,
      fun online good data w named => ?_⟩
    · have request := requestOf?_note (window := window) note (n := n) (by omega) (by omega)
      have takes := State.takeConnect_note (s := u) (offset := o) fresh online request
      have refusal : u.noteRefusal? h.src = if s.settings.noteSenders.getLsbD h.src.val = false then some .denied
        else if s.freePlace = false then some .notesFull else none := rfl
      rw [refusal] at takes
      refine ⟨fun denied => refuses (x := .note) ?_, fun allowed full => refuses (x := .note) ?_, fun allowed free => answers ?_ (fun idle => nomatch idle)⟩
      · rw [takes, if_pos denied]
        rfl
      · rw [takes, if_neg (by rw [allowed]; decide), if_pos (Bool.eq_false_iff.mpr (mt s.freePlace_iff.mp full))]
        rfl
      · rw [takes, if_neg (by rw [allowed]; decide), if_neg (by rw [s.freePlace_iff.mpr free]; decide)]
        exact State.sendBody_yielding (s := ({ taken .note with notes := { s.notes with reserved := true } } : State)) path _ _
    · intro x inSet operation' entry verdict
      have code : op = 1 ∨ op = 2 := by omega
      have request := requestOf?_data (operation := operation) (window := window) (n := n) (w := w) code (by omega) named
      have writes : decide (operation' = .write) = decide (op = 2) := by
        rcases code with code | code <;> simp only [operation', code] <;> rfl
      have full : ¬ place ↔ s.freePlace = false := by rw [Bool.eq_false_iff]; exact not_congr s.freePlace_iff.symm
      have refusal : u.windowRefusal? h.src operation' (u.window w) o n = verdict := by
        unfold State.windowRefusal?
        simp only [verdict, inSet, operation', x, full]
        rcases code with code | code <;> simp only [code, reduceCtorEq, if_true, if_false, Nat.reduceEqDiff, false_and, true_and]
        · rfl
        · rfl
      refine ⟨fun q refuse => refuses (State.takeConnect_refused fresh online request (refusal.trans refuse)),
        fun passes ready => answers ?_ (fun idle => nomatch idle), fun passes not => answers ?_ (fun idle => nomatch idle)⟩
      · rw [State.takeConnect_entered (s := u) fresh online request (refusal.trans passes)]
        refine (if_pos ready).trans ?_
        rw [State.newEntry_ready (s := u) ready, writes]
        exact State.sendBody_yielding (s := ({ taken operation' with
          service := { s.service with entries := s.service.entries ++ [entry] } } : State)) path _ _
      · rw [State.takeConnect_entered (s := u) fresh online request (refusal.trans passes)]
        refine (if_neg not).trans ?_
        rw [State.newEntry_parked (s := u) not, writes]
        exact State.pump_yielding (s := ({ taken operation' with
          engine := { answering operation' with closing := some (.disconnect .held 0) }
          mover := { s.mover with buffer := none, stores := [], fetch := none }
          port := s.port.giveUp
          service := { s.service with entries := s.service.entries ++
            [{ entry with state := .parked, parkTimer := some (64 * s.settings.parkLimit)
                          stamp := some (parkedCount s.service.entries + 1) }] } } : State)) path _
  · obtain ⟨host, es, entries, new⟩ := u.takeConnect_tables h operation window o n
    refine ⟨_, next_congr (State.receive_delivered delivers (deliver := fun t =>
      t.takeCall h (.connect operation window offset length)) (fun _ => rfl)), ?_, fun f mem key => ?_⟩
    · refine State.flag_drainTest ?_
      have flags : ((u.takeCall h (.connect operation window offset length)).pump).host = (u.dropEntry (keyOf h)).host := by
        rw [connects, ← host]
        simp
      rw [State.flag, show State.host _ = _ from flags, State.dropEntry_found (by exact found)]
      exact State.flag_raise_self _ _
    · rw [State.entries_drainTest] at mem
      have all : ((u.takeCall h (.connect operation window offset length)).pump).service.entries =
          (u.dropEntry (keyOf h)).service.entries ++ es := by
        rw [connects, ← entries]
        simp
      have mem' : f ∈ (u.dropEntry (keyOf h)).service.entries ++ es := by
        rw [← all]
        exact mem
      exact (List.mem_append.mp mem').elim (fun old => absurd key (State.dropEntry_fresh u (keyOf h) f old)) (new f)

end Sys2Proof.Machine
end

section
/-! The tenure: what the mover's steps leave unchanged, the beginning of a tenure, ACCEPT taken (O37). -/

namespace Sys2Proof.Machine

/-! ### The mover's steps change the mover, the port, and the ABORT that becomes due -/

/-- What a step of the mover or the walker may change; an ABORT that is due keeps its cause (R145 to R151). -/
structure State.MoverStep (s t : State) : Prop where
  blocks : t = { s with engine := { s.engine with abortDue := t.engine.abortDue }, mover := t.mover, port := t.port }
  first : ∀ c, s.engine.abortDue = some c → t.engine.abortDue = some c

namespace State.MoverStep

variable {s t u : State}

theorem refl (s : State) : s.MoverStep s := ⟨rfl, fun _ due => due⟩

theorem trans (first : s.MoverStep t) (second : t.MoverStep u) : s.MoverStep u := by
  obtain ⟨eq, keep⟩ := first
  obtain ⟨eq', keep'⟩ := second
  refine ⟨?_, fun c due => keep' c (keep c due)⟩
  rw [eq] at eq'
  exact eq'

theorem ite {c : Prop} [Decidable c] (yes : c → s.MoverStep t) (no : ¬ c → s.MoverStep u) :
    s.MoverStep (if c then t else u) := by
  split
  · exact yes ‹_›
  · exact no ‹_›

theorem mover (s : State) (m : Mover) (p : Port) : s.MoverStep { s with mover := m, port := p } := ⟨rfl, fun _ due => due⟩

theorem abortFor (s : State) (c : AbortCause) : s.MoverStep (s.abortFor c) := by
  refine ⟨rfl, fun d due => ?_⟩
  simp only [State.abortFor, due, Option.some_or]

theorem moverFault (s : State) (d : FaultDetail) : s.MoverStep (s.moverFault d) :=
  (mover s _ _).trans (abortFor s.moverGiveUp _)

theorem request (s : State) (who : Requester) (t : Transaction) : s.MoverStep (s.request who t) := by
  rw [State.request_eq]
  exact mover s _ _

theorem walkerAsk (s : State) : s.MoverStep s.walkerAsk := by
  unfold State.walkerAsk
  split
  · exact refl s
  · exact ite (fun _ => moverFault s _) fun _ => request s _ _

theorem askPiece (s : State) (p n : Nat) (make : Nat → Nat → Transaction) : s.MoverStep (s.askPiece p n make) := by
  rw [State.askPiece, State.cursorSettled_eq]
  have settled : s.MoverStep s.cursorSettled := mover s _ _
  split
  · exact settled.trans (ite (fun _ => moverFault _ _) fun _ => request _ _ _)
  · exact (settled.trans (mover _ _ _)).trans (walkerAsk _)
  · exact settled.trans (moverFault _ _)

theorem moverAsk (s : State) : s.MoverStep s.moverAsk := by
  unfold State.moverAsk
  refine ite (fun _ => refl s) fun _ => ?_
  split
  · exact ite (fun _ => askPiece s _ _ _) fun _ => refl s
  · exact askPiece s _ _ _
  · exact refl s

theorem feed (s : State) : s.MoverStep s.feed := by
  unfold State.feed
  refine ite (fun _ => ?_) fun _ => refl s
  split
  · exact (mover s _ _).trans (moverAsk _)
  · exact refl s

theorem moverRestart (s : State) : s.MoverStep s.moverRestart := mover s _ _

theorem checkRetries (s : State) : s.MoverStep s.checkRetries := by
  unfold State.checkRetries
  split
  · exact ite (fun _ => abortFor s _) fun _ => refl s
  · exact refl s

/-- A mover's step does not look at the data path. -/
theorem yielding {frames : List Frame} (step : (s.yielding frames).MoverStep t) :
    t = ({ s with engine := { s.engine with abortDue := t.engine.abortDue }, mover := t.mover, port := t.port } :
      State).yielding frames := step.blocks

end State.MoverStep

/-- The turn leaves every block but the bus. -/
@[simp] theorem State.atTurn_frame (s : State) (frames : List Frame) :
    (s.atTurn frames).station = s.station ∧ (s.atTurn frames).arb = s.arb ∧ (s.atTurn frames).engine = s.engine ∧
      (s.atTurn frames).sched = s.sched ∧ (s.atTurn frames).service = s.service ∧ (s.atTurn frames).notes = s.notes ∧
      (s.atTurn frames).port = s.port ∧ (s.atTurn frames).mover = s.mover ∧ (s.atTurn frames).host = s.host := by
  rw [State.atTurn_bus]
  exact ⟨rfl, rfl, rfl, rfl, rfl, rfl, rfl, rfl, rfl⟩

/-! ### A tenure begins (R83) -/

/-- The Engine at the beginning of a tenure at position `start` (R83). -/
def Engine.begun (e : Engine) (start : Nat) (silence : Nat) : Engine :=
  { e with
    phase := if e.isSender then .sending else .receiving
    sendPos := start, nextSeq := 0, unacked := [], expectedSeq := 0, writtenSeq := none, gapReported := false
    ackDue := false, tenureCount := 0, point := none, closing := none, closeRetries := 0, endSent := false
    answerTimer := none, ackTimer := none, closeTimer := none
    silenceTimer := if e.isSender then none else some silence }

/-- The station at the beginning of a tenure, before its mover asks (R83, R145, R148). -/
def State.begun (s : State) (start : Nat) : State :=
  { s with
    engine := s.engine.begun start s.silenceLimit
    mover := { buffer := none, stores := [], fetch := none, working := s.confirmedCursor, cache := none }
    port := s.port.giveUp }

theorem State.beginTenure_eq (s : State) (start : Nat) : s.beginTenure start = (s.begun start).feed.targetPoint := rfl

theorem State.targetPoint_initiator {s : State} (role : s.engine.role = .initiator) : s.targetPoint = s :=
  if_neg fun at' => by simp [role] at at'

theorem State.feed_of_not_sending {s : State} (phase : s.engine.phase ≠ .sending) : s.feed = s :=
  if_neg fun sends => phase sends.1

theorem State.targetPoint_of_due {s : State} (due : s.engine.abortDue ≠ none) : s.targetPoint = s :=
  if_neg fun at' => due at'.2.1

/-- Giving up keeps what the port does for others, and a transaction of the mover's in progress (R141, R151). -/
theorem State.moverBusy_giveUp {s : State} {p : Port} (port : s.port = p.giveUp) (fetch : s.mover.fetch = none) :
    s.moverBusy = true ↔ ∃ g, p.current = some g ∧ (g.who = .mover ∨ g.who = .walker) ∧ g.state ≠ .ended := by
  have quiet : (p.waiting.filter fun r => !r.1.ofConnection).any (·.1.ofConnection) = false := by
    rw [List.any_eq_false]
    intro r mem
    simpa using (List.mem_filter.mp mem).2
  unfold State.moverBusy
  rw [fetch, port]
  simp only [Port.giveUp, quiet, Option.isSome_none, Bool.false_or]
  cases current : p.current with
  | none => simp
  | some g =>
    have kept (c : Bool) : (if c then g.discard else g).who = g.who ∧ ((if c then g.discard else g).state = .ended ↔ g.state = .ended) := by
      unfold Granted.discard
      by_cases running : g.state = .running
      · cases c <;> simp [running]
      · cases c <;> simp [running]
    simp only [Option.map_some, Option.elim_some, Option.some.injEq, exists_eq_left', Bool.and_eq_true, decide_eq_true_eq,
      ne_eq, kept]
    simp [Requester.ofConnection]

theorem Engine.isSender_initiator {e : Engine} (role : e.role = .initiator) : e.isSender = decide (e.op ≠ .read) := by
  unfold Engine.isSender
  rw [role]
  cases e.op <;> rfl

theorem Engine.isSender_target {e : Engine} (role : e.role = .target) : e.isSender = decide (e.op = .read) := by
  unfold Engine.isSender
  rw [role]
  cases e.op <;> rfl

theorem State.feed_sending {s : State} {p n : Nat} (sending : s.engine.phase = .sending) (none : s.engine.abortDue = none)
    (buffer : s.mover.buffer = Option.none) (next : s.nextFrame? = some (p, n)) :
    s.feed = State.moverAsk { s with mover := { s.mover with buffer := some ⟨p, n, [], false⟩ } } := by
  rw [State.feed, if_pos ⟨sending, none, buffer⟩, next]

/-- With nothing outstanding and no stop the next frame is a new one (R84). -/
theorem State.nextFrame?_new {s : State} (empty : s.engine.unacked = []) (left : s.engine.sendPos < s.engine.length)
    (free : s.stopped = false) : s.nextFrame? = some (s.engine.sendPos, min 256 (s.engine.length - s.engine.sendPos)) := by
  simp only [State.nextFrame?, Engine.resend?, empty, List.find?_nil, List.length_nil, left, free, Config.credit, and_self]
  rfl

/-- The mover asks for the first piece of a payload at a DIRECT local side (R145). -/
theorem State.moverAsk_direct {s : State} {b : PayloadBuffer} (free : s.moverBusy = false)
    (buffer : s.mover.buffer = some b) (fresh : b.bytes = []) (some : 0 < b.len) (role : s.engine.role = .initiator)
    (direct : s.ownSlot.form = .direct) (inside : s.ownSlot.localAddr + b.pos < 4294967296) (short : b.len ≤ 256) :
    s.moverAsk = { s with port := s.port.asked .mover (.read (s.ownSlot.localAddr + b.pos)
      (min b.len (64 - (s.ownSlot.localAddr + b.pos) % 64))) } := by
  have none : s.usesList = false := by simp [State.usesList, direct]
  have place : s.placeOf b.pos = .found (s.ownSlot.localAddr + b.pos) Config.maxLength := by
    simp [State.placeOf, role, direct]
  rw [State.moverAsk_read free buffer (by rw [fresh]; exact some), fresh]
  refine (State.askPiece_found (by rw [State.cursorSettled_of_no_list none]; exact place) inside).trans ?_
  rw [State.cursorSettled_of_no_list none, chunk]
  have whole : min (b.len - ([] : List Byte).length) Config.maxLength = b.len := by
    simp only [List.length_nil, Config.maxLength]
    omega
  rw [whole]
  rfl

/-- An initiator's tenure by its operation (R83). -/
theorem Engine.begun_initiator {e : Engine} (role : e.role = .initiator) (start n : Nat) : e.begun start n = { e with
    phase := if e.op = .read then .receiving else .sending
    sendPos := start, nextSeq := 0, unacked := [], expectedSeq := 0, writtenSeq := none, gapReported := false
    ackDue := false, tenureCount := 0, point := none, closing := none, closeRetries := 0, endSent := false
    answerTimer := none, ackTimer := none, closeTimer := none
    silenceTimer := if e.op = .read then some n else none } := by
  simp only [Engine.begun, Engine.isSender_initiator role, decide_eq_true_eq, ite_not]

theorem Engine.begun_open (e : Engine) (start n : Nat) : (e.begun start n).phase ≠ .idle := by
  unfold Engine.begun
  dsimp only
  split <;> decide

/-! ### The point at which a READ or WRITE target closes is not reached (R42, R90, R91) -/

theorem State.readPoint_stays {s : State} (left : s.engine.sendPos < s.engine.length)
    (tenure : s.engine.tenureCount < s.settings.tenureLimit) (free : s.stopped = false) : s.readPoint = s := by
  simp only [State.readPoint, not_le.mpr left, not_le.mpr tenure, free, Bool.false_eq_true, if_false, ite_self]

theorem State.writePoint_stays {s : State} (data : s.engine.op ≠ .note) (left : s.entryProgress < s.engine.length)
    (none : s.engine.point = none) : s.writePoint = s := by
  simp only [State.writePoint, data, not_le.mpr left, none, if_false, ite_self]

/-- A READ target on a READY window is not stopped (R42, R84). -/
theorem State.stopped_target {s : State} {e : Entry} (role : s.engine.role = .target) (closing : s.engine.closing = none)
    (tenure : s.engine.tenureCount < s.settings.tenureLimit) (found : s.entry? s.engine.key = some e)
    (ready : (s.window e.window).hold = .ready) : s.stopped = false := by
  simp [State.stopped, role, closing, tenure, found, ready]

theorem State.entryProgress_of {s : State} {e : Entry} (found : s.entry? s.engine.key = some e) :
    s.entryProgress = e.progress := by
  simp only [State.entryProgress, found, Option.elim_some]

/-- A tenure that has just begun on a READY window, short of its end, is not at its point. -/
theorem State.targetPoint_begun {s : State} {e : Entry} {o : Nat} {frames : List Frame} (role : s.engine.role = .target)
    (data : s.engine.op = .read ∨ s.engine.op = .write) (found : s.entry? s.engine.key = some e)
    (ready : (s.window e.window).hold = .ready) (tenure : 0 < s.settings.tenureLimit) (left : o < s.engine.length)
    (progress : e.progress < s.engine.length) :
    ((s.begun o).yielding frames).feed.targetPoint = ((s.begun o).yielding frames).feed := by
  let f := ((s.begun o).yielding frames).feed
  have blocks : f = _ := (State.MoverStep.feed ((s.begun o).yielding frames)).blocks
  have engine : f.engine = { (s.begun o).engine with abortDue := f.engine.abortDue } := congrArg (·.engine) blocks
  have sender := Engine.isSender_target role
  refine ite_eq_right_iff.mpr fun _ => ?_
  have phase : f.engine.phase = if s.engine.isSender then .sending else .receiving := congrArg (·.phase) engine
  have found' : f.entry? f.engine.key = some e := by
    rw [engine]
    refine (State.entry?_of_service (s := s) (congrArg (·.service) blocks) _).trans found
  rcases data with read | write
  · have sending : f.engine.phase = .sending := by rw [phase, sender, read]; rfl
    have window : f.window e.window = s.window e.window := State.window_of_service (congrArg (·.service) blocks) _
    have station : f.station = s.station := congrArg (·.station) blocks
    have limit : f.settings = s.settings := by simp only [State.settings, station]
    have count : f.engine.tenureCount < f.settings.tenureLimit := by
      rw [limit, engine]
      exact tenure
    show (match f.engine.phase with | .sending => f.readPoint | .receiving => f.writePoint | _ => f) = f
    rw [sending]
    refine State.readPoint_stays ?_ count (State.stopped_target (e := e) ?_ ?_ count found' (window ▸ ready))
    · rw [engine]; exact left
    · rw [engine]; exact role
    · rw [engine]; rfl
  · have receiving : f.engine.phase = .receiving := by rw [phase, sender, write]; rfl
    show (match f.engine.phase with | .sending => f.readPoint | .receiving => f.writePoint | _ => f) = f
    rw [receiving]
    refine State.writePoint_stays ?_ ?_ ?_
    · rw [engine, show (s.begun o).engine.op = .write from write]; decide
    · rw [State.entryProgress_of found', engine]; exact progress
    · rw [engine]; rfl

/-- An entry that is changed and set aside is PARKED with the next stamp (R45). -/
theorem Service.park_edit {v : Service} {k : Key} {f : Entry → Entry} (absent : k ∉ v.queue) (timer : Timer)
    (same : ∀ e : Entry, (f e).key = e.key ∧ (f e).state = e.state) :
    (v.edit k f).park k timer = { v with entries := v.entries.map fun x =>
      if x.key = k then { f x with state := .parked, stamp := some (parkedCount v.entries + 1), parkTimer := timer }
      else x } := by
  have count : parkedCount (v.edit k f).entries = parkedCount v.entries := by
    have each : (fun e : Entry => decide (e.state = .parked)) ∘ (fun e => if e.key = k then f e else e) =
        fun e => decide (e.state = .parked) := by
      funext e
      dsimp only [Function.comp]
      split <;> simp [same]
    simp only [parkedCount, Service.edit, List.filter_map, List.length_map, each]
  have queue : (v.edit k f).queue.erase k = v.queue := List.erase_of_not_mem absent
  rw [Service.park, queue, count]
  refine congrArg (fun es => ({ v with entries := es } : Service)) ?_
  rw [Service.edit, List.map_map]
  refine List.map_congr_left fun e _ => ?_
  dsimp only [Function.comp]
  by_cases own : e.key = k
  · simp [own, same]
  · simp [own]

/-- Settles O37: the tenure begins, or the closing at once, as R80 and R81 say. -/
theorem callAccepted : Obligations.CallAccepted := by
  have kind (h : FrameHead) (o : Nat) : ∀ t : State, t.takeFrame ⟨h, .accept o⟩ =
      t.hear h fun u => u.within h fun v => v.takeAccept o := fun _ => rfl
  refine ⟨fun s h offset => ?_, fun s h offset e => ?_⟩
  · intro i x delivers hears calling timer purpose role selected range
    let r : State := { s.heardFrom h with sched := s.sched.put i { x with state := .active, deadline := none } }
    let f : State := ((r.begun 0).yielding s.waiting).feed
    let z : State := { r.begun 0 with
      engine := { (r.begun 0).engine with abortDue := f.engine.abortDue }, mover := f.mover, port := f.port }
    have fed : f = z.yielding s.waiting := (State.MoverStep.feed ((r.begun 0).yielding s.waiting)).yielding
    have sender : s.engine.isSender = decide (s.engine.op ≠ .read) := Engine.isSender_initiator role
    have begins : ((s.heardFrom h).yielding s.waiting).takeAccept offset.toNat = f := by
      have activates : ((s.heardFrom h).yielding s.waiting).activateSlot i = r.yielding s.waiting := if_pos (.inl selected)
      simp only [State.takeAccept, show ((s.heardFrom h).yielding s.waiting).engine.awaitsAnswer = true from
        Engine.awaitsAnswer_of calling timer, show ((s.heardFrom h).yielding s.waiting).engine.purpose = .connect from purpose,
        if_true]
      refine (congrArg (fun t : State => t.beginTenure 0) activates).trans ?_
      refine (State.targetPoint_initiator (s := f) ?_)
      rw [fed]
      exact role
    have begun := Engine.begun_initiator (e := r.engine) role 0 r.silenceLimit
    have own : r.ownSlot = { x with state := .active, deadline := none } := (Scheduler.slot_put ..).trans (if_pos rfl)
    have cursor : r.confirmedCursor = x.cursor := (State.confirmedCursor_initiator (by exact role)).trans (by rw [own])
    have phase : (r.begun 0).engine.phase = if s.engine.op = .read then .receiving else .sending := congrArg (·.phase) begun
    refine ⟨z.atTurn s.waiting, (exec_acceptReceived s h range).trans (next_congr (State.receive_busy delivers hears (kind h _)
      (begins.trans fed) rfl ?_)), ?_, ?_, ?_, fun read => ?_, fun data quiet direct left none inside => ?_⟩
    · exact Engine.begun_open r.engine 0 r.silenceLimit
    · simp only [State.atTurn_frame]
      rfl
    · simp only [State.atTurn_frame]
      rfl
    · simp only [State.atTurn_frame]
      exact congrArg (fun n : Engine => { n with abortDue := f.engine.abortDue }) begun
    · simp only [State.atTurn_frame]
      have receiving : (r.begun 0).engine.phase ≠ .sending := by
        rw [phase, if_pos read]
        decide
      have still : f = (r.begun 0).yielding s.waiting := State.feed_of_not_sending (by exact receiving)
      refine ⟨congrArg (·.engine.abortDue) still, congrArg (·.port) still, (congrArg (·.mover) still).trans ?_⟩
      rw [← cursor]
      rfl
    · simp only [State.atTurn_frame]
      have sending : (r.begun 0).engine.phase = .sending := phase.trans (if_neg data)
      let m : Mover := ⟨some ⟨0, min 256 s.engine.length, [], false⟩, [], x.cursor, Option.none, Option.none⟩
      let w : State := { (r.begun 0).yielding s.waiting with mover := m }
      have running : ((r.begun 0).yielding s.waiting).stopped = false := by
        unfold State.stopped
        rw [show ((r.begun 0).yielding s.waiting).engine.role = .initiator from role]
        exact (congrArg Slot.cancelRequested own).trans quiet
      have next : ((r.begun 0).yielding s.waiting).nextFrame? = some (0, min 256 s.engine.length) :=
        State.nextFrame?_new rfl left running
      have asks : f = w.moverAsk := by
        refine (State.feed_sending (s := (r.begun 0).yielding s.waiting) sending none rfl next).trans ?_
        exact congrArg (fun c : Cursor => State.moverAsk { (r.begun 0).yielding s.waiting with
          mover := ⟨some ⟨0, min 256 s.engine.length, [], false⟩, [], c, Option.none, Option.none⟩ }) cursor
      have busy := State.moverBusy_giveUp (s := w) (p := s.port) rfl rfl
      have ownForm : w.ownSlot.form = .direct := (congrArg Slot.form own).trans direct
      have address : w.ownSlot.localAddr = x.localAddr := by rw [show w.ownSlot = _ from own]
      by_cases waits : w.moverBusy = true
      · have stays : f = w := asks.trans (if_pos waits)
        exact ⟨(congrArg (·.engine.abortDue) stays).trans none, congrArg (·.mover) stays,
          fun _ => congrArg (·.port) stays, fun free => absurd (busy.mp waits) free⟩
      · have asked := State.moverAsk_direct (s := w) (b := ⟨0, min 256 s.engine.length, [], false⟩)
          (Bool.not_eq_true _ ▸ waits) rfl rfl (lt_min (by decide) left) role ownForm
          (by rw [address]; exact inside) (min_le_left _ _)
        rw [address] at asked
        have starts := asks.trans asked
        exact ⟨(congrArg (·.engine.abortDue) starts).trans none, congrArg (·.mover) starts,
          fun held => absurd (busy.mpr held) waits, fun _ => congrArg (·.port) starts⟩
  · intro k delivers hears calling timer purpose role op data length found resuming more limit none range table
    let r : State := { s.heardFrom h with engine := { (s.heardFrom h).engine with answerTimer := Option.none } }
    have accepts : ((s.heardFrom h).yielding s.waiting).takeAccept offset.toNat =
        ((s.heardFrom h).yielding s.waiting).resumeAccepted offset.toNat := by
      simp only [State.takeAccept, show ((s.heardFrom h).yielding s.waiting).engine.awaitsAnswer = true from
        Engine.awaitsAnswer_of calling timer, show ((s.heardFrom h).yielding s.waiting).engine.purpose = .resume from purpose,
        if_true]
    have stops : ((s.heardFrom h).yielding s.waiting).stopAnswerTimer = r.yielding s.waiting := rfl
    have takes : ((s.heardFrom h).yielding s.waiting).takeAccept offset.toNat =
        if offset.toNat ≠ e.progress then (r.yielding s.waiting).abortFor (.link .offset)
        else if e.state ≠ .resuming then (r.yielding s.waiting).leaveConnection
        else if (s.window e.window).hold = .ready then
          ((r.yielding s.waiting).updateEntry k fun x => { x with state := .connected, noAnswers := 0 }).beginTenure offset.toNat
        else (((r.yielding s.waiting).updateEntry k fun x => { x with noAnswers := 0 }).parkAndCheck k).closeAtOnce
          (.disconnect .held offset.toNat) := by
      rw [accepts, State.resumeAccepted, stops]
      simp only [show (r.yielding s.waiting).entry? (r.yielding s.waiting).engine.key = some e from found]
      rfl
    refine ⟨fun differs => ?_, fun agrees ready => ?_, fun agrees holding online => ?_⟩
    · refine (exec_acceptReceived s h range).trans (next_congr (State.receive_busy delivers hears (kind h _)
        (takes.trans ((if_pos differs).trans (State.abortFor_yielding (s := r) none _ _))) rfl
        (by exact Engine.open_of_hears hears)))
    · let r' : State := { r with service := s.service.edit k fun x => { x with state := .connected, noAnswers := 0 } }
      let f : State := ((r'.begun offset.toNat).yielding s.waiting).feed
      let z : State := { r'.begun offset.toNat with
        engine := { (r'.begun offset.toNat).engine with abortDue := f.engine.abortDue }, mover := f.mover, port := f.port }
      have fed : f = z.yielding s.waiting := (State.MoverStep.feed ((r'.begun offset.toNat).yielding s.waiting)).yielding
      have entered : r'.entry? r'.engine.key = some { e with state := .connected, noAnswers := 0 } :=
        (Service.entry?_edit (v := s.service) (f := fun x => { x with state := .connected, noAnswers := 0 }) fun _ => rfl).trans
          (congrArg (Option.map fun x : Entry => { x with state := .connected, noAnswers := 0 }) found)
      have begins : ((s.heardFrom h).yielding s.waiting).takeAccept offset.toNat = z.yielding s.waiting := by
        refine takes.trans ((if_neg (not_not_intro agrees)).trans ((if_neg (not_not_intro resuming)).trans
          ((if_pos ready).trans (Eq.trans ?_ fed))))
        exact State.targetPoint_begun (s := r') role (op ▸ data) entered ready limit (by rw [agrees]; exact length ▸ more)
          (length ▸ more)
      have sender : r'.engine.isSender = decide (e.op = .read) := (Engine.isSender_target role).trans 
        (congrArg (fun o => decide (o = .read)) op)
      refine ⟨z.atTurn s.waiting, (exec_acceptReceived s h range).trans (next_congr (State.receive_busy delivers hears (kind h _)
        begins rfl (Engine.begun_open r'.engine offset.toNat r'.silenceLimit))), ?_⟩
      simp only [State.atTurn_frame]
      refine ⟨rfl, rfl, ?_, agrees, rfl, rfl, rfl, rfl, rfl, rfl, rfl, ?_⟩
      · exact (congrArg (fun b : Bool => if b then Phase.sending else .receiving) sender).trans (by simp only [decide_eq_true_eq])
      · exact (congrArg (fun b : Bool => if b then (Option.none : Timer) else some (4 * s.settings.ackTime)) sender).trans
          (by simp only [decide_eq_true_eq])
    · let r' : State := { r with service := s.service.edit k fun x => { x with noAnswers := 0 } }
      have absent : k ∉ s.service.queue :=
        Service.Table.not_queued (v := s.service) table found (by simp [Entry.waits, resuming])
      have edited : (r'.yielding s.waiting).entry? k = some { e with noAnswers := 0 } :=
        (Service.entry?_edit (v := s.service) (f := fun x => { x with noAnswers := 0 }) fun _ => rfl).trans
          (congrArg (Option.map fun x : Entry => { x with noAnswers := 0 }) found)
      let es := s.service.entries.map fun f => if f.key = k then
        { f with state := .parked, noAnswers := 0, parkTimer := some (64 * s.settings.parkLimit)
                 stamp := some (parkedCount s.service.entries + 1) } else f
      have parked : (r'.yielding s.waiting).parkEntry k =
          ({ r with service := { s.service with entries := es } } : State).yielding s.waiting :=
        (State.parkEntry_eq edited (by rw [show (r'.yielding s.waiting).station.state = _ from online]; decide)
          (by rw [resuming]; decide)).trans
          (congrArg (fun v => ({ r with service := v } : State).yielding s.waiting)
            (Service.park_edit (v := s.service) (k := k) (f := fun x => { x with noAnswers := 0 }) absent (some s.parkSpan) fun _ => ⟨rfl, rfl⟩))
      obtain ⟨v, host, settled, sameQueue, sameEntries, lost, stays⟩ :=
        (({ r with service := { s.service with entries := es } } : State).yielding s.waiting).windowCheck_settles e.window
          (any_keeps_changed (es := s.service.entries) (k := k) fun x => by simp [Entry.keeps])
      let y : State := { r with
        service := v, host := host
        engine := { r.engine with
          phase := .closing, closing := some (.disconnect .held e.progress), closeRetries := 0, ackDue := false
          ackTimer := Option.none, silenceTimer := Option.none } }
      have closes : ((s.heardFrom h).yielding s.waiting).takeAccept offset.toNat =
          y.atTurn (s.waiting ++ [s.connFrame (.disconnect .held e.progress)]) := by
        refine takes.trans ((if_neg (not_not_intro agrees)).trans ((if_neg (not_not_intro resuming)).trans
          ((if_neg (by rw [holding]; decide)).trans ?_)))
        have parks : ((r.yielding s.waiting).updateEntry k fun x => { x with noAnswers := 0 }).parkAndCheck k =
            ({ r with service := v, host := host } : State).yielding s.waiting :=
          (State.parkAndCheck_eq edited).trans ((congrArg (fun t : State => t.windowCheck e.window) parked).trans settled)
        rw [parks, agrees]
        exact State.sendBody_yielding (s := y) (State.open_of_delivers delivers) s.waiting _
      refine ⟨_, (exec_acceptReceived s h range).trans (next_congr (State.receive_busy_answered delivers hears (kind h _)
        closes (fun idle => nomatch idle))), ?_⟩
      simp only [State.atTurn_frame]
      exact ⟨rfl, sameQueue, sameEntries, fun kept => (stays fun held => held.2 kept).symm,
        fun alone => lost ⟨holding, alone⟩⟩

end Sys2Proof.Machine
end

section
/-! DATA taken by a receiver (O39). -/

namespace Sys2Proof.Machine

/-! ### The fields of DATA, ACK and NAK -/

theorem seqField?_ofNat (q : SeqNo) : seqField? (BitVec.ofNat 8 q.val) = some q := by
  have value : (BitVec.ofNat 8 q.val).toNat = q.val := by
    rw [BitVec.toNat_ofNat]
    omega
  unfold seqField?
  rw [dif_pos (by rw [value]; exact q.isLt)]
  exact congrArg some (Fin.ext value)

theorem exec_dataReceived (s : State) (h : FrameHead) (q : SeqNo) {payload : List Byte} (least : 1 ≤ payload.length)
    (most : payload.length ≤ 256) :
    exec (.dataReceived h (BitVec.ofNat 8 q.val) payload) s = .next (s.receive h (some (.data q payload))) :=
  (congrArg (fun x => (.next (s.receive h (Option.bind x fun a => (payloadField? payload).map (Body.data a ·))) : Result))
    (seqField?_ofNat q)).trans
    (congrArg (fun b => (.next (s.receive h (Option.map (Body.data q) b)) : Result)) (if_pos ⟨least, most⟩))

theorem exec_ackReceived (s : State) (h : FrameHead) (q : SeqNo) :
    exec (.ackReceived h (BitVec.ofNat 8 q.val)) s = .next (s.receive h (some (.ack q))) :=
  congrArg (fun b => (.next (s.receive h (Option.map Body.ack b)) : Result)) (seqField?_ofNat q)

theorem exec_nakReceived (s : State) (h : FrameHead) (q : SeqNo) :
    exec (.nakReceived h (BitVec.ofNat 8 q.val)) s = .next (s.receive h (some (.nak q))) :=
  congrArg (fun b => (.next (s.receive h (Option.map Body.nak b)) : Result)) (seqField?_ofNat q)

theorem SeqNo.distance (a b : SeqNo) : (a - b).val = (a.val + 8 - b.val) % 8 := by
  have := a.isLt
  have := b.isLt
  rw [Fin.sub_def]
  show (8 - b.val + a.val) % 8 = _
  omega

/-! ### A DATA frame by its distance (R85) -/

section
variable {s : State} {seq : SeqNo} {payload : List Byte}

theorem State.takeData_past (point : s.engine.point.isSome = true) : s.takeData seq payload = s := if_pos point

theorem State.takeData_discarded (isOpen : s.engine.point = none) (here : (seq - s.engine.expectedSeq).val = 0)
    (wrong : ¬ (s.engine.closing = none ∧ payload.length = s.expectedPayload) ∨
      (s.engine.role = .target ∧ s.engine.op = .note ∧ s.notes.reserved = false)) : s.takeData seq payload = s := by
  refine (if_neg (by simp [isOpen])).trans ((if_pos here).trans (if_neg fun ⟨closing, length, place⟩ => ?_))
  rcases wrong with wrong | ⟨role, note, none⟩
  · exact wrong ⟨closing, length⟩
  · exact Bool.false_ne_true (none.symm.trans (place note role))

theorem State.takeData_inOrder (isOpen : s.engine.point = none) (here : (seq - s.engine.expectedSeq).val = 0)
    (closing : s.engine.closing = none) (length : payload.length = s.expectedPayload)
    (place : s.engine.op = .note → s.engine.role = .target → s.notes.reserved = true) :
    s.takeData seq payload = s.takeInOrder seq payload :=
  (if_neg (by simp [isOpen])).trans ((if_pos here).trans (if_pos ⟨closing, length, place⟩))

theorem State.takeData_ahead (isOpen : s.engine.point = none) (off : (seq - s.engine.expectedSeq).val ≠ 0)
    (ahead : (seq - s.engine.expectedSeq).val ≤ 3 ∨ s.engine.writtenSeq = none) : s.takeData seq payload = s.takeAhead :=
  (if_neg (by simp [isOpen])).trans ((if_neg off).trans (if_pos ahead))

theorem State.takeData_behind (isOpen : s.engine.point = none) (far : 3 < (seq - s.engine.expectedSeq).val)
    (written : s.engine.writtenSeq.isSome = true) :
    s.takeData seq payload = { s with engine := { s.engine with ackDue := true } } := by
  refine (if_neg (by simp [isOpen])).trans ((if_neg (by omega)).trans (if_neg ?_))
  rintro (near | none)
  · exact absurd near (not_le.mpr far)
  · simp [none] at written

end

/-! ### Where the bytes lie (R29, R145, R147, R149) -/

theorem Mover.settled_cases (m : Mover) :
    (∃ g, m.cache = some g ∧ g.index = m.working.index ∧ g.len ≤ m.working.offset ∧ m.settled = ⟨m.working.index + 1, 0⟩) ∨
      ((∀ g, m.cache = some g → ¬ (g.index = m.working.index ∧ g.len ≤ m.working.offset)) ∧ m.settled = m.working) := by
  unfold Mover.settled
  cases cache : m.cache with
  | none => exact .inr ⟨fun _ found => (nomatch found), rfl⟩
  | some g =>
    by_cases spent : g.index = m.working.index ∧ g.len ≤ m.working.offset
    · exact .inl ⟨g, rfl, spent.1, spent.2, if_pos spent⟩
    · exact .inr ⟨fun _ found => by cases found; exact spent, if_neg spent⟩

/-- A settled cursor is settled. -/
theorem Mover.settled_settled (m : Mover) : ({ m with working := m.settled } : Mover).settled = m.settled := by
  rcases m.settled_cases with ⟨g, cache, index, -, settled⟩ | ⟨fresh, settled⟩
  · rw [settled]
    simp [Mover.settled, cache, index]
  · rw [settled]
    exact settled

theorem Mover.place_settled (m : Mover) (n : Nat) : ({ m with working := m.settled } : Mover).place n = m.place n := by
  simp only [Mover.place, Mover.settled_settled]

/-- The place of the next bytes does not change when the cursor is settled. -/
theorem State.placeOf_cursorSettled (s : State) (p : Nat) : s.cursorSettled.placeOf p = s.placeOf p := by
  cases list : s.usesList with
  | false => rw [State.cursorSettled_of_no_list list]
  | true =>
    rw [State.placeOf_of_list (s := s) list, State.placeOf_of_list (s := s.cursorSettled) (by exact list)]
    have cursor : s.cursorSettled.mover = { s.mover with working := s.mover.settled } := by
      simp only [State.cursorSettled, list, if_true]
    rw [cursor]
    exact s.mover.place_settled _

theorem State.fetch_of_free {s : State} (free : s.moverBusy = false) : s.mover.fetch = none := by
  simp only [State.moverBusy, Bool.or_eq_false_iff, Option.isSome_eq_false_iff, Option.isNone_iff_eq_none] at free
  exact free.1.1

/-- Settles O39: a DATA frame by its distance, the store that it starts, and the places of the bytes. -/
theorem dataTaken : Obligations.DataTaken := by
  refine ⟨fun s h seq payload delivers hears receiving none least most => ?_, ?_, ?_⟩
  · intro c d x answers right counted store note asks
    have kind : ∀ t : State, t.takeFrame ⟨h, .data seq payload⟩ =
        t.hear h fun u => u.within h fun v => v.takeDataFrame seq payload := fun _ => rfl
    let u : State := x.yielding s.waiting
    have takes : u.takeDataFrame seq payload = u.takeData seq payload :=
      if_pos ⟨Engine.inTenure_of (.inr (.inl receiving)) none, receiving⟩
    have distance : (seq - u.engine.expectedSeq).val = d := SeqNo.distance _ _
    have settles {t : State} (taken : u.takeData seq payload = t.yielding s.waiting) (path : t.bus.view = s.bus.view)
        (busy : t.engine.phase ≠ .idle) : answers t :=
      (exec_dataReceived s h seq least most).trans
        (next_congr (State.receive_busy delivers hears kind (takes.trans taken) path busy))
    have busy : s.engine.phase ≠ .idle := Engine.open_of_hears hears
    have inOrder (isOpen : s.engine.point = Option.none) (here : d = 0) (fits : right) (place : note → s.notes.reserved = true) :
        u.takeData seq payload = u.takeInOrder seq payload :=
      State.takeData_inOrder isOpen (distance.trans here) fits.2 fits.1 fun op role => place ⟨role, op⟩
    let held : State := ({ x with engine := counted, mover := { s.mover with stores := [store] } } : State).yielding s.waiting
    have starts (asked : asks) : u.takeData seq payload =
        held.askPiece s.receivePos payload.length fun a n => .write a (payload.take n) := by
      obtain ⟨isOpen, here, fits, data, free, buffer, empty⟩ := asked
      have stored : State.moverAsk (({ x with
            engine := counted, mover := { s.mover with stores := s.mover.stores ++ [store] } } : State).yielding s.waiting) =
          held.askPiece s.receivePos payload.length fun a n => .write a (payload.take n) := by
        rw [empty]
        exact State.moverAsk_write (s := held) free buffer rfl
      exact (inOrder isOpen here fits fun isNote => absurd isNote data).trans ((if_neg data).trans stored)
    have placed : held.cursorSettled.placeOf s.receivePos = s.placeOf s.receivePos :=
      (State.placeOf_cursorSettled held _).trans rfl
    refine ⟨fun past => settles (State.takeData_past past) rfl busy, fun isOpen here wrong => settles
      (State.takeData_discarded isOpen (distance.trans here) (wrong.imp (mt fun fits => ⟨fits.2, fits.1⟩) fun both => ⟨both.1.1, both.1.2, both.2⟩)) rfl busy,
      fun isOpen here fits isNote place => settles ((inOrder isOpen here fits fun _ => place).trans (if_pos isNote)) rfl busy,
      fun isOpen here fits data held => settles ((inOrder isOpen here fits fun isNote => absurd isNote data).trans
        ((if_neg data).trans (if_pos held))) rfl busy, fun asked direct a room place inside large => ?_, fun asked list => ?_,
      fun isOpen ahead => ?_, fun isOpen far written => settles (State.takeData_behind isOpen (by rw [distance]; exact far) written) rfl busy⟩
    · have whole : min payload.length room = payload.length := min_eq_left (most.trans large)
      refine settles ((starts asked).trans ((State.askPiece_found (placed.trans place) inside).trans ?_)) rfl busy
      rw [State.cursorSettled_of_no_list (by exact direct), chunk, whole]
      rfl
    · intro y m
      have settled : held.cursorSettled = ({ x with engine := counted, mover := m } : State).yielding s.waiting := by
        rw [State.cursorSettled, show held.usesList = true from list]
        rfl
      refine ⟨fun a room place inside => ?_, fun k place => ?_, fun place => ?_⟩
      · refine settles ((starts asked).trans ((State.askPiece_found (placed.trans place) inside).trans ?_)) rfl busy
        rw [settled]
        rfl
      · intro a inside
        refine settles ((starts asked).trans ((State.askPiece_fetch (placed.trans place) inside).trans ?_)) rfl busy
        rw [settled]
        rfl
      · have ⟨_, _, _, _, free, buffer, _⟩ := asked
        have fetch : s.mover.fetch = Option.none := State.fetch_of_free free
        refine settles ((starts asked).trans ((State.askPiece_short (placed.trans place)).trans ?_)) rfl busy
        rw [settled]
        have given : ({ m with buffer := Option.none, stores := [], fetch := Option.none } : Mover) = { m with stores := [] } := by
          simp only [m, buffer, fetch]
        have due : s.engine.abortDue.or (some (.localFault .segmentShort)) = some (.localFault .segmentShort) := by
          rw [none]
          rfl
        rw [← given, ← due]
        rfl
    · have off : (seq - u.engine.expectedSeq).val ≠ 0 := by rw [distance]; omega
      have taken : u.takeData seq payload = u.takeAhead :=
        State.takeData_ahead isOpen off (by rw [distance]; exact ahead.imp And.right And.right)
      split
      · next reported => exact settles (taken.trans (if_pos reported)) rfl busy
      · next reported =>
        refine (exec_dataReceived s h seq least most).trans (next_congr (State.receive_busy_answered delivers hears kind
          (takes.trans (taken.trans ((if_neg reported).trans ?_))) (by exact busy)))
        exact State.sendBody_yielding (s := ({ x with engine := { x.engine with gapReported := true } } : State))
          (State.open_of_delivers delivers) s.waiting _
  · intro s p
    refine ⟨fun other => ?_, fun role direct => ?_, fun role list => ?_, fun role e found => ⟨fun write => ?_, ?_⟩⟩
    · unfold State.pointReached
      split
      · next role write => exact absurd write (other.resolve_left (by rw [role]; decide))
      · rfl
    · simp [State.placeOf, role, direct, Config.maxLength]
    · simp [State.placeOf, role, list]
    · simp only [State.pointReached, role, write, found, Option.elim_some, decide_eq_true_eq, ge_iff_le]
    · simp only [State.placeOf, role, found, Config.maxLength]
  · intro m segments w entry
    have entry_eq (k : Nat) : (if k ≥ segments then Place.short else .fetch k) = entry k := by
      by_cases inside : k < segments
      · simp only [entry, inside, if_true, not_le.mpr inside, if_false]
      · simp only [entry, inside, if_false, not_lt.mp inside, if_true]
    refine ⟨fun none => ?_, fun g cached other => ?_, fun g cached same => ⟨fun inside => ?_, fun spent => ?_⟩⟩
    · have settled : m.settled = w := by simp only [Mover.settled, none, w]
      exact ⟨settled, by simp only [Mover.place, settled, none, entry_eq]⟩
    · have settled : m.settled = w := by
        simp only [Mover.settled, cached]
        exact if_neg fun both => other both.1
      exact ⟨settled, by simp only [Mover.place, settled, cached, other, if_false, entry_eq]⟩
    · have settled : m.settled = w := by
        simp only [Mover.settled, cached]
        exact if_neg fun both => absurd both.2 (not_le.mpr inside)
      exact ⟨settled, by simp only [Mover.place, settled, cached, same, if_true]⟩
    · have settled : m.settled = ⟨w.index + 1, 0⟩ := by
        simp only [Mover.settled, cached]
        exact if_pos ⟨same, spent⟩
      have other : g.index ≠ w.index + 1 := by omega
      exact ⟨settled, by simp only [Mover.place, settled, cached, other, if_false, entry_eq]⟩

end Sys2Proof.Machine
end

section
/-! ACK and NAK taken by a sender (O40). -/

namespace Sys2Proof.Machine

/-! ### A frame that ends with the turn, whatever began within it -/

theorem State.receive_turned {s z : State} {h : FrameHead} (delivers : s.delivers h) (hears : s.engine.hears h = true)
    {b : Body} {take : State → State} {frames : List Frame}
    (kind : ∀ t : State, t.takeFrame ⟨h, b⟩ = t.hear h fun u => u.within h take)
    (taken : (take ((s.heardFrom h).yielding s.waiting)).pump = z.atTurn frames) (busy : z.engine.phase ≠ .idle) :
    s.receive h (some b) = z.atTurn frames := by
  rw [State.receive_heard delivers hears kind, taken, State.drainTest_atTurn busy]

/-! ### Acknowledgement (R86) -/

/-- The Engine after frames up to `f` have left the list (R86; log 22). -/
def Engine.acked (e : Engine) (f : SentFrame) (rest : List SentFrame) (ackTime : Nat) : Engine :=
  { e with
    unacked := rest, sendPos := max e.sendPos (f.pos + f.len)
    ackTimer := if rest = [] then none else some ackTime }

/-- Progress of a target's exchange is its entry's (R15). -/
theorem State.progressTo_target {s : State} (role : s.engine.role = .target) (p : Nat) (c : Cursor) :
    s.progressTo p c = { s with service := s.service.edit s.engine.key fun e => { e with progress := max e.progress p } } := by
  simp only [State.progressTo, role]
  rfl

theorem State.progressTo_yielding (s : State) (frames : List Frame) (p : Nat) (c : Cursor) :
    (s.yielding frames).progressTo p c = (s.progressTo p c).yielding frames := by
  cases role : s.engine.role with
  | initiator => rw [State.progressTo_initiator role, State.progressTo_initiator (by exact role)]; rfl
  | target => rw [State.progressTo_target role, State.progressTo_target (by exact role)]; rfl

/-- The frames that are acknowledged leave the list, and progress rises to the end of the last of them. -/
theorem State.acknowledge_yielding {s : State} {acked : List SentFrame} {f : SentFrame} (last : acked.getLast? = some f)
    (rest : List SentFrame) (frames : List Frame) :
    ∃ m p, (s.yielding frames).acknowledge acked rest = ({ s.progressTo (f.pos + f.len) f.endCursor with
      engine := s.engine.acked f rest s.settings.ackTime, mover := m, port := p } : State).yielding frames := by
  have progress := State.progressTo_yielding s frames (f.pos + f.len) f.endCursor
  have engine : (s.progressTo (f.pos + f.len) f.endCursor).engine = s.engine := by simp
  have station : (s.progressTo (f.pos + f.len) f.endCursor).station = s.station := by simp
  have span : (s.progressTo (f.pos + f.len) f.endCursor).settings = s.settings := by rw [State.settings, station]; rfl
  have acked : s.engine.acked f rest s.settings.ackTime = (s.progressTo (f.pos + f.len) f.endCursor).engine.acked f rest
      (s.progressTo (f.pos + f.len) f.endCursor).settings.ackTime := by rw [engine, span]
  unfold State.acknowledge
  rw [last]
  dsimp only
  rw [progress, acked]
  split
  · exact ⟨_, _, rfl⟩
  · exact ⟨_, _, rfl⟩

/-- Nothing acknowledged, nothing changed. -/
theorem State.acknowledge_nil (s : State) (rest : List SentFrame) : s.acknowledge [] rest = s := rfl

/-! ### After an acknowledgement (R42, R84, R90) -/

/-- The closing frame that a READ target decides on when its list is empty (R42, R90, R92, R101). -/
def State.readClosing (s : State) : Option ClosingFrame :=
  if s.engine.unacked ≠ [] then none
  else if s.engine.length ≤ s.engine.sendPos then some (.finish s.engine.length)
  else if s.settings.tenureLimit ≤ s.engine.tenureCount then some (.disconnect .tenure s.entryProgress)
  else if s.stopped then some (.disconnect .held s.entryProgress)
  else none

theorem State.readPoint_eq (s : State) : s.readPoint = s.readClosing.elim s s.close := by
  unfold State.readPoint State.readClosing State.closeAt
  simp only [if_true, Bool.false_eq_true, if_false]
  split_ifs <;> rfl

theorem State.readClosing_empty {s : State} {c : ClosingFrame} (closes : s.readClosing = some c) : s.engine.unacked = [] := by
  by_contra filled
  rw [State.readClosing, if_pos filled] at closes
  exact nomatch closes

/-- A READ target whose list may be empty decides to close, or its mover goes on. -/
theorem State.senderDone_target {s : State} (path : s.bus.isOpen) (role : s.engine.role = .target)
    (sending : s.engine.phase = .sending) (none : s.engine.abortDue = none) (undecided : s.engine.closing = Option.none)
    (frames : List Frame) :
    ∃ a m p, (s.yielding frames).senderDone.feed.pump = ({ s with
      engine := { s.engine with closing := s.readClosing, abortDue := a }, mover := m, port := p } : State).atTurn frames := by
  have point : (s.yielding frames).senderDone = s.readClosing.elim (s.yielding frames) (s.yielding frames).close := by
    refine Eq.trans ?_ (State.readPoint_eq (s.yielding frames))
    unfold State.senderDone State.targetPoint
    rw [show (s.yielding frames).engine.role = .target from role, show (s.yielding frames).engine.phase = .sending from sending]
    exact if_pos ⟨rfl, none, undecided⟩
  rw [point]
  cases closes : s.readClosing with
  | none =>
    have fed := (State.MoverStep.feed (s.yielding frames)).yielding
    have same (a : Option AbortCause) : ({ s.engine with closing := Option.none, abortDue := a } : Engine) =
        { s.engine with abortDue := a } := by rw [← undecided]
    let f := (s.yielding frames).feed
    refine ⟨f.engine.abortDue, f.mover, f.port, ?_⟩
    rw [same]
    exact (congrArg State.pump fed).trans (State.pump_yielding (by exact path) frames)
  | some c =>
    let z : State := { s with
      engine := { s.engine with closing := some c }, mover := { s.mover with buffer := Option.none, stores := [], fetch := Option.none }
      port := s.port.giveUp }
    have closed : (s.yielding frames).close c = z.atTurn frames := State.pump_yielding (s := z) path frames
    have stops : (z.atTurn frames).feed = z.atTurn frames := by
      refine State.feed_of_no_frame (State.nextFrame?_of_stopped ?_ ?_)
      · simp only [State.stopped, State.atTurn_frame, show z.engine.role = .target from role, show z.engine.closing = some c from rfl]
        rfl
      · have empty : z.engine.unacked = [] := State.readClosing_empty (s := s) closes
        simp only [Engine.resend?, State.atTurn_frame, empty, List.find?_nil]
    refine ⟨s.engine.abortDue, z.mover, z.port, ?_⟩
    rw [Option.elim_some, closed, stops, State.pump_of_atTurn]

/-- A READ target that has decided already only lets its mover go on. -/
theorem State.senderDone_decided {s : State} (path : s.bus.isOpen) (role : s.engine.role = .target)
    (decided : s.engine.closing ≠ none) (frames : List Frame) :
    ∃ a m p, (s.yielding frames).senderDone.feed.pump = ({ s with
      engine := { s.engine with abortDue := a }, mover := m, port := p } : State).atTurn frames := by
  have point : (s.yielding frames).senderDone = s.yielding frames := by
    unfold State.senderDone State.targetPoint
    rw [show (s.yielding frames).engine.role = .target from role]
    exact if_neg fun all => decided all.2.2
  have fed := (State.MoverStep.feed (s.yielding frames)).yielding
  let f := (s.yielding frames).feed
  refine ⟨f.engine.abortDue, f.mover, f.port, ?_⟩
  rw [point]
  exact (congrArg State.pump fed).trans (State.pump_yielding (by exact path) frames)

/-- An initiator with everything sent and acknowledged awaits FINISH (R84). -/
theorem State.senderDone_initiator {s : State} (path : s.bus.isOpen) (role : s.engine.role = .initiator)
    (sending : s.engine.phase = .sending) (frames : List Frame) :
    ∃ a m p, (s.yielding frames).senderDone.feed.pump = ({ s with
      engine := { s.engine with
        phase := if s.engine.unacked = [] ∧ s.engine.length ≤ s.engine.sendPos then .awaitingFinish else .sending
        silenceTimer := if s.engine.unacked = [] ∧ s.engine.length ≤ s.engine.sendPos then some s.silenceLimit
          else s.engine.silenceTimer
        abortDue := a }
      mover := m, port := p } : State).atTurn frames := by
  let r : State := { s with engine := { s.engine with
    phase := if s.engine.unacked = [] ∧ s.engine.length ≤ s.engine.sendPos then .awaitingFinish else .sending
    silenceTimer := if s.engine.unacked = [] ∧ s.engine.length ≤ s.engine.sendPos then some s.silenceLimit
      else s.engine.silenceTimer } }
  have done : (s.yielding frames).senderDone = r.yielding frames := by
    unfold State.senderDone
    rw [show (s.yielding frames).engine.role = .initiator from role]
    by_cases all : s.engine.unacked = [] ∧ s.engine.length ≤ s.engine.sendPos
    · simp only [r, if_pos all]
      exact if_pos all
    · simp only [r, if_neg all]
      refine (if_neg all).trans ?_
      rw [← sending]
  have fed := (State.MoverStep.feed (r.yielding frames)).yielding
  let f := (r.yielding frames).feed
  refine ⟨f.engine.abortDue, f.mover, f.port, ?_⟩
  rw [done]
  exact (congrArg State.pump fed).trans (State.pump_yielding (by exact path) frames)

/-! ### The go-back (R86, R87) -/

/-- The sender stands at the oldest frame again; one that has used its retries has ABORT(LINK) due. -/
theorem State.goBack_eq {s : State} {f : SentFrame} {rest : List SentFrame} (list : s.engine.unacked = f :: rest) :
    ∃ a m p, s.goBack = { s with
        engine := { s.engine with sendPos := f.pos, ackTimer := some s.settings.ackTime, abortDue := a }
        mover := m, port := p } ∧
      (s.engine.abortDue = none → 3 ≤ f.retries → a = some (.link .retries) ∧ m.buffer = none) := by
  let r : State := { s with engine := { s.engine with sendPos := f.pos, ackTimer := some s.settings.ackTime } }
  let q : State := r.moverRestart.checkRetries
  have back : s.goBack = q.feed := by
    unfold State.goBack
    rw [list]
    rfl
  have step : r.MoverStep q.feed :=
    ((State.MoverStep.moverRestart r).trans (State.MoverStep.checkRetries _)).trans (State.MoverStep.feed q)
  refine ⟨q.feed.engine.abortDue, q.feed.mover, q.feed.port, back.trans step.blocks, fun none used => ?_⟩
  have again : r.moverRestart.engine.resend? = some f := by
    simp only [Engine.resend?, show r.moverRestart.engine.unacked = f :: rest from list]
    exact List.find?_cons_of_pos (decide_eq_true rfl)
  have due : q = r.moverRestart.abortFor (.link .retries) := by
    simp only [q, State.checkRetries, again]
    exact if_pos used
  have cause : q.engine.abortDue = some (.link .retries) := by
    rw [due, State.abortFor_engine, show r.moverRestart.engine.abortDue = Option.none from none]
    rfl
  have stops : q.feed = q := if_neg fun both => by simp [cause] at both
  rw [stops]
  exact ⟨cause, by rw [due]; rfl⟩

theorem State.goBack_yielding {s : State} {f : SentFrame} {rest : List SentFrame} (path : s.bus.isOpen)
    (list : s.engine.unacked = f :: rest) (frames : List Frame) :
    ∃ a m p, (s.yielding frames).goBack.pump = ({ s with
        engine := { s.engine with sendPos := f.pos, ackTimer := some s.settings.ackTime, abortDue := a }
        mover := m, port := p } : State).atTurn frames ∧
      (s.engine.abortDue = none → 3 ≤ f.retries → a = some (.link .retries)) := by
  obtain ⟨a, m, p, back, due⟩ := State.goBack_eq (s := s.yielding frames) list
  let z : State := { s with
    engine := { s.engine with sendPos := f.pos, ackTimer := some s.settings.ackTime, abortDue := a }, mover := m, port := p }
  exact ⟨a, m, p, (congrArg State.pump back).trans (State.pump_yielding (s := z) path frames),
    fun none used => (due none used).1⟩

/-! ### The frame of the list that an ACK or a NAK names (R86) -/

theorem named_split {older rest : List SentFrame} {f : SentFrame} (before : ∀ g ∈ older, g.seq ≠ f.seq) :
    ((older ++ f :: rest).any fun g => g.seq = f.seq) = true ∧
      ((older ++ f :: rest).takeWhile fun g => g.seq ≠ f.seq) = older ∧
      ((older ++ f :: rest).dropWhile fun g => g.seq ≠ f.seq) = f :: rest := by
  have all : ∀ g ∈ older, decide (g.seq ≠ f.seq) = true := fun g mem => decide_eq_true (before g mem)
  refine ⟨by simp, ?_, ?_⟩
  · rw [List.takeWhile_append_of_pos all, List.takeWhile_cons_of_neg (by simp), List.append_nil]
  · rw [List.dropWhile_append_of_pos all, List.dropWhile_cons_of_neg (by simp)]

theorem State.takeAck_named {s : State} {older rest : List SentFrame} {f : SentFrame}
    (list : s.engine.unacked = older ++ f :: rest) (before : ∀ g ∈ older, g.seq ≠ f.seq) :
    s.takeAck f.seq = (s.acknowledge (older ++ [f]) rest).senderDone.feed := by
  obtain ⟨any, take, drop⟩ := named_split (rest := rest) before
  simp only [State.takeAck, list, any, take, drop, if_true]
  rfl

theorem State.takeAck_unnamed {s : State} {q : SeqNo} (other : ∀ g ∈ s.engine.unacked, g.seq ≠ q) : s.takeAck q = s :=
  if_neg (by simpa using other)

theorem State.takeNak_named {s : State} {older rest : List SentFrame} {f : SentFrame}
    (list : s.engine.unacked = older ++ f :: rest) (before : ∀ g ∈ older, g.seq ≠ f.seq) :
    s.takeNak f.seq = (s.acknowledge older (f :: rest)).goBack := by
  obtain ⟨any, take, drop⟩ := named_split (rest := rest) before
  simp only [State.takeNak, list, any, take, drop, if_true]

theorem State.takeNak_unnamed {s : State} {q : SeqNo} (other : ∀ g ∈ s.engine.unacked, g.seq ≠ q)
    (last : q ≠ s.engine.nextSeq) : s.takeNak q = s :=
  (if_neg (by simpa using other)).trans (if_neg last)

theorem State.takeNak_next {s : State} (other : ∀ g ∈ s.engine.unacked, g.seq ≠ s.engine.nextSeq) :
    s.takeNak s.engine.nextSeq = (s.acknowledge s.engine.unacked []).senderDone.feed :=
  (if_neg (by simpa using other)).trans (if_pos rfl)

/-- The decision of a READ target after frames up to `f` have left its list. -/
theorem State.readClosing_acked {s : State} {e : Entry} {f : SentFrame} {rest : List SentFrame} {m : Mover} {p : Port}
    (role : s.engine.role = .target) (undecided : s.engine.closing = none) (found : s.entry? s.engine.key = some e) :
    let at' := max e.progress (f.pos + f.len)
    let sent := max s.engine.sendPos (f.pos + f.len)
    ({ s with
      service := s.service.edit s.engine.key fun e => { e with progress := max e.progress (f.pos + f.len) }
      engine := s.engine.acked f rest s.settings.ackTime, mover := m, port := p } : State).readClosing =
      if rest ≠ [] then none
      else if s.engine.length ≤ sent then some (.finish s.engine.length)
      else if s.settings.tenureLimit ≤ s.engine.tenureCount then some (.disconnect .tenure at')
      else if (s.window e.window).hold ≠ .ready then some (.disconnect .held at')
      else none := by
  intro at' sent
  let y : State := { s with
    service := s.service.edit s.engine.key fun e => { e with progress := max e.progress (f.pos + f.len) }
    engine := s.engine.acked f rest s.settings.ackTime, mover := m, port := p }
  have entry : y.entry? y.engine.key = some { e with progress := at' } :=
    (Service.entry?_edit (v := s.service) (f := fun e => { e with progress := max e.progress (f.pos + f.len) }) fun _ => rfl).trans
      (congrArg (Option.map fun e : Entry => { e with progress := max e.progress (f.pos + f.len) }) found)
  have progress : y.entryProgress = at' := State.entryProgress_of entry
  have stopped (short : ¬ s.settings.tenureLimit ≤ s.engine.tenureCount) :
      y.stopped = decide ((s.window e.window).hold ≠ .ready) := by
    simp only [State.stopped, show y.engine.role = .target from role, entry, show y.engine.closing = none from undecided,
      show y.engine.tenureCount = s.engine.tenureCount from rfl, show y.settings = s.settings from rfl, short,
      Option.isSome_none, decide_false, Bool.or_self, Bool.false_or, Option.elim_some]
    rfl
  show y.readClosing = _
  unfold State.readClosing
  rw [progress]
  refine if_congr Iff.rfl rfl (if_congr Iff.rfl rfl ?_)
  by_cases short : s.settings.tenureLimit ≤ s.engine.tenureCount
  · rw [if_pos short]
    exact if_pos short
  · rw [if_neg short, stopped short]
    refine (if_neg short).trans ?_
    simp only [decide_eq_true_eq]

/-- Settles O40: what an ACK or a NAK acknowledges, and what the sender does after it. -/
theorem ackAndNakTaken : Obligations.AckAndNakTaken := by
  refine ⟨fun s h older rest f delivers hears sending none => ?_, fun s h older rest f q delivers hears sending none => ?_⟩
  · intro c upTo i x sent all
    have kind : ∀ t : State, t.takeFrame ⟨h, .ack f.seq⟩ = t.hear h fun u => u.within h fun v => v.takeAckFrame f.seq :=
      fun _ => rfl
    let u : State := (s.heardFrom h).yielding s.waiting
    have takes : u.takeAckFrame f.seq = u.takeAck f.seq := if_pos ⟨Engine.inTenure_of (.inl sending) none, sending⟩
    have path : s.bus.isOpen := State.open_of_delivers delivers
    refine ⟨fun other => (exec_ackReceived s h f.seq).trans (next_congr (State.receive_ignored delivers hears kind
      (takes.trans (State.takeAck_unnamed other)))), fun list before => ?_⟩
    obtain ⟨m, p, acked⟩ := State.acknowledge_yielding (s := s.heardFrom h) (List.getLast?_concat (a := f) (l := older)) rest s.waiting
    have taken : u.takeAckFrame f.seq = (u.acknowledge (older ++ [f]) rest).senderDone.feed :=
      takes.trans (State.takeAck_named list before)
    refine ⟨fun role => ?_, fun role read undecided e found => ?_⟩
    · rw [State.progressTo_initiator (by exact role)] at acked
      let y : State := { s.heardFrom h with
        sched := s.sched.put i { x with
          progress := max x.progress upTo, cursor := if x.form = .list then f.endCursor else x.cursor }
        engine := (s.heardFrom h).engine.acked f rest s.settings.ackTime, mover := m, port := p }
      obtain ⟨a, m', p', ends⟩ := State.senderDone_initiator (s := y) path role sending s.waiting
      have done := (congrArg State.pump (taken.trans (congrArg (fun t : State => t.senderDone.feed) acked))).trans ends
      refine ⟨_, (exec_ackReceived s h f.seq).trans (next_congr (State.receive_turned delivers hears kind done ?_)), ?_⟩
      · dsimp only
        split <;> decide
      · simp only [State.atTurn_frame]
        exact ⟨rfl, rfl, rfl, rfl, rfl, rfl, fun every => if_pos every⟩
    · rw [State.progressTo_target (by exact role)] at acked
      let y : State := { s.heardFrom h with
        service := s.service.edit s.engine.key fun e => { e with progress := max e.progress upTo }
        engine := (s.heardFrom h).engine.acked f rest s.settings.ackTime, mover := m, port := p }
      obtain ⟨a, m', p', ends⟩ := State.senderDone_target (s := y) path role sending none undecided s.waiting
      have done := (congrArg State.pump (taken.trans (congrArg (fun t : State => t.senderDone.feed) acked))).trans ends
      refine ⟨_, (exec_ackReceived s h f.seq).trans (next_congr (State.receive_turned delivers hears kind done ?_)), ?_⟩
      · exact Engine.open_of_hears hears
      · simp only [State.atTurn_frame]
        exact ⟨rfl, rfl, rfl, rfl, sending, rfl, State.readClosing_acked (s := s.heardFrom h) role undecided found⟩
  · intro i x initiator target progressed only either
    have kind (q : SeqNo) : ∀ t : State, t.takeFrame ⟨h, .nak q⟩ = t.hear h fun u => u.within h fun v => v.takeNakFrame q :=
      fun _ => rfl
    let u : State := (s.heardFrom h).yielding s.waiting
    have takes (q : SeqNo) : u.takeNakFrame q = u.takeNak q := if_pos ⟨Engine.inTenure_of (.inl sending) none, sending⟩
    have path : s.bus.isOpen := State.open_of_delivers delivers
    refine ⟨fun list before => ?_, fun other last => (exec_nakReceived s h q).trans (next_congr
      (State.receive_ignored delivers hears (kind q) ((takes q).trans (State.takeNak_unnamed other last)))),
      fun other filled => ?_⟩
    · have went {y : State} (acked : u.acknowledge older (f :: rest) = y.yielding s.waiting) (bus : y.bus = s.bus)
          (unacked : y.engine.unacked = f :: rest) (phase : y.engine.phase = .sending) :
          ∃ a m p, exec (.nakReceived h (BitVec.ofNat 8 f.seq.val)) s = .next (({ y with
              engine := { y.engine with sendPos := f.pos, ackTimer := some y.settings.ackTime, abortDue := a }
              mover := m, port := p } : State).atTurn s.waiting) ∧
            (y.engine.abortDue = Option.none → 3 ≤ f.retries → a = some (.link .retries)) := by
        obtain ⟨a, m, p, back, due⟩ := State.goBack_yielding (s := y) (by rw [bus]; exact path) unacked s.waiting
        have taken := ((takes f.seq).trans (State.takeNak_named list before)).trans (congrArg State.goBack acked)
        have turned := State.receive_turned delivers hears (kind f.seq) ((congrArg State.pump taken).trans back)
          (by exact phase ▸ Phase.noConfusion)
        exact ⟨a, m, p, (exec_nakReceived s h f.seq).trans (next_congr turned), due⟩
      rcases eq_or_ne older [] with rfl | some
      · obtain ⟨a, m, p, run, due⟩ := went (y := s.heardFrom h) rfl rfl list sending
        refine ⟨_, run, ?_⟩
        simp only [only, progressed, State.atTurn_frame]
        exact ⟨trivial, ⟨fun _ => ⟨rfl, rfl⟩, fun _ => ⟨rfl, rfl⟩⟩, list, trivial, sending, rfl, rfl, fun used => due none used⟩
      · obtain ⟨g, last⟩ : ∃ g, older.getLast? = Option.some g := Option.isSome_iff_exists.mp (by simpa using some)
        obtain ⟨m, p, acked⟩ := State.acknowledge_yielding (s := s.heardFrom h) last (f :: rest) s.waiting
        rcases either with role | ⟨role, read⟩
        · rw [State.progressTo_initiator (by exact role)] at acked
          obtain ⟨a, m, p, run, due⟩ := went acked rfl rfl sending
          refine ⟨_, run, ?_⟩
          simp only [only, progressed, State.atTurn_frame, last]
          exact ⟨trivial, ⟨fun _ => ⟨rfl, rfl⟩, fun target => nomatch role.symm.trans target.1⟩, rfl, trivial, sending, rfl, rfl,
            fun used => due none used⟩
        · rw [State.progressTo_target (by exact role)] at acked
          obtain ⟨a, m, p, run, due⟩ := went acked rfl rfl sending
          refine ⟨_, run, ?_⟩
          simp only [only, progressed, State.atTurn_frame, last]
          exact ⟨trivial, ⟨fun start => (nomatch role.symm.trans start), fun _ => ⟨rfl, rfl⟩⟩, rfl, trivial, sending, rfl, rfl,
            fun used => due none used⟩
    · obtain ⟨g, last⟩ : ∃ g, s.engine.unacked.getLast? = some g := Option.isSome_iff_exists.mp (by simpa using filled)
      obtain ⟨m, p, acked⟩ := State.acknowledge_yielding (s := s.heardFrom h) last [] s.waiting
      have taken := (takes s.engine.nextSeq).trans (State.takeNak_next (s := u) other)
      have run {y z : State} (acked : u.acknowledge s.engine.unacked [] = y.yielding s.waiting)
          (ends : (y.yielding s.waiting).senderDone.feed.pump = z.atTurn s.waiting) (busy : z.engine.phase ≠ .idle) :
          exec (.nakReceived h (BitVec.ofNat 8 s.engine.nextSeq.val)) s = .next (z.atTurn s.waiting) :=
        (exec_nakReceived s h s.engine.nextSeq).trans (next_congr (State.receive_turned delivers hears (kind _)
          ((congrArg State.pump (taken.trans (congrArg (fun t : State => t.senderDone.feed) acked))).trans ends) busy))
      rcases either with role | ⟨role, read⟩
      · rw [State.progressTo_initiator (by exact role)] at acked
        let y : State := { s.heardFrom h with
          sched := s.sched.put i { x with
            progress := max x.progress (g.pos + g.len), cursor := if x.form = .list then g.endCursor else x.cursor }
          engine := (s.heardFrom h).engine.acked g [] s.settings.ackTime, mover := m, port := p }
        obtain ⟨a, m', p', ends⟩ := State.senderDone_initiator (s := y) path role sending s.waiting
        refine ⟨_, run (y := y) acked ends (by dsimp only; split <;> decide), ?_⟩
        simp only [only, progressed, State.atTurn_frame, last]
        have all : (([] : List SentFrame) = [] ∧ s.engine.length ≤ max s.engine.sendPos (g.pos + g.len)) =
            (s.engine.length ≤ max s.engine.sendPos (g.pos + g.len)) := by simp
        exact ⟨rfl, ⟨fun _ => ⟨rfl, rfl⟩, fun target => (nomatch role.symm.trans target.1)⟩, rfl, rfl, rfl,
          fun _ => ⟨if_congr all.to_iff rfl rfl, fun every => if_pos ⟨rfl, every⟩⟩,
          fun target => (nomatch role.symm.trans target.1), fun target => (nomatch role.symm.trans target.1)⟩
      · rw [State.progressTo_target (by exact role)] at acked
        let y : State := { s.heardFrom h with
          service := s.service.edit s.engine.key fun e => { e with progress := max e.progress (g.pos + g.len) }
          engine := (s.heardFrom h).engine.acked g [] s.settings.ackTime, mover := m, port := p }
        by_cases undecided : s.engine.closing = Option.none
        · obtain ⟨a, m', p', ends⟩ := State.senderDone_target (s := y) path role sending none undecided s.waiting
          refine ⟨_, run (y := y) acked ends (by exact sending ▸ Phase.noConfusion), ?_⟩
          simp only [only, progressed, State.atTurn_frame, last]
          exact ⟨rfl, ⟨fun start => (nomatch role.symm.trans start), fun _ => ⟨rfl, rfl⟩⟩, rfl, rfl, rfl,
            fun start => (nomatch role.symm.trans start), fun _ => sending,
            fun _ _ e found => (State.readClosing_acked (s := s.heardFrom h) role undecided found).trans (if_neg (not_not_intro rfl))⟩
        · obtain ⟨a, m', p', ends⟩ := State.senderDone_decided (s := y) path role undecided s.waiting
          refine ⟨_, run (y := y) acked ends (by exact sending ▸ Phase.noConfusion), ?_⟩
          simp only [only, progressed, State.atTurn_frame, last]
          exact ⟨rfl, ⟨fun start => (nomatch role.symm.trans start), fun _ => ⟨rfl, rfl⟩⟩, rfl, rfl, rfl,
            fun start => (nomatch role.symm.trans start), fun _ => sending, fun _ isOpen => absurd isOpen undecided⟩

end Sys2Proof.Machine
end

section
/-! The end of a frame that this station drives: calls and the roll call out good (O46). -/

namespace Sys2Proof.Machine

/-! ### The frame that ends (R59) -/

/-- A station with an open connection is not drained (R161). -/
theorem State.drainTest_of_open {s : State} (busy : s.engine.phase ≠ .idle) : s.drainTest = s :=
  State.drainTest_of_not_drained (by simp [State.drained, busy])

/-- A frame of the open connection is one that the Engine would build now. -/
theorem State.ownsFrame_iff (s : State) (f : Frame) :
    s.ownsFrame f = true ↔ s.engine.phase ≠ .idle ∧ f = s.connFrame f.body := by
  have heads : f.head = (s.connFrame f.body).head ↔ f = s.connFrame f.body :=
    ⟨fun same => by cases f; exact congrArg (fun h => Frame.mk h _) same, fun same => congrArg Frame.head same⟩
  simp only [State.ownsFrame, Bool.and_eq_true, decide_eq_true_eq, heads]

/-- A frame of no open connection ends without effect at the Engine. -/
theorem State.frameEnd_foreign {s : State} {f : Frame} (good : Bool) (roll : f.body.isRollCall = false)
    (foreign : s.engine.phase = .idle ∨ ¬ f = s.connFrame f.body) : s.frameEnd f good = s := by
  have free : s.ownsFrame f = false := by
    rw [← Bool.not_eq_true, State.ownsFrame_iff]
    exact fun both => foreign.elim both.1 (absurd both.2)
  obtain ⟨head, b⟩ := f
  cases b
  case rollcall => exact nomatch roll
  case present => rfl
  all_goals exact if_neg (ne_true_of_eq_false free)

/-- A frame of the open connection ends at the Engine. -/
theorem State.frameEnd_owned {s : State} {b : Body} (good : Bool) (roll : b.isRollCall = false) (busy : s.engine.phase ≠ .idle) :
    s.frameEnd (s.connFrame b) good = s.engineFrameEnd (s.connFrame b) good := by
  have own : s.ownsFrame (s.connFrame b) = true := (State.ownsFrame_iff s _).mpr ⟨busy, rfl⟩
  cases b
  case rollcall => exact nomatch roll
  case present => exact nomatch roll
  all_goals exact if_pos own

/-- DATA, NAK and PRESENT do nothing more at their end. -/
theorem State.frameEnd_quiet (s : State) {f : Frame} (good : Bool)
    (quiet : (∃ q p, f.body = .data q p) ∨ (∃ q, f.body = .nak q) ∨ f.body = .present) : s.frameEnd f good = s := by
  rcases quiet with ⟨q, p, body⟩ | ⟨q, body⟩ | body
  · simp only [State.frameEnd, State.engineFrameEnd, body, ite_self]
  · simp only [State.frameEnd, State.engineFrameEnd, body, ite_self]
  · simp only [State.frameEnd, body]

/-- A frame has gone out good. -/
theorem exec_frameSentGood {s : State} {f : Frame} (driving : s.bus.driving = some f) :
    exec .frameSentGood s = .next (({ s with
      bus := { s.bus with driving := none, turn := .theirs }
      station := { s.station with collisionRun := 0 } } : State).frameEnd f true).drainTest := by
  show execFrameSentGood s = _
  rw [execFrameSentGood, driving]
  rfl

/-- With nothing being driven neither end of a frame changes anything (log 2). -/
theorem exec_frameEnd_undriven {s : State} (driving : s.bus.driving = none) :
    exec .frameSentGood s = .next s ∧ exec .collisionDetected s = .next s := by
  refine ⟨?_, ?_⟩
  · show execFrameSentGood s = _
    rw [execFrameSentGood, driving]
  · show execCollisionDetected s = _
    rw [execCollisionDetected, driving]

/-! ### A call that went out (R78, R109) -/

theorem State.callOutGood_gone {s : State} (gone : s.engine.wantGone = true) : s.callOutGood = s.offConnection := by
  rw [State.callOutGood, if_pos gone, State.leaveConnection_eq]

/-- Settles O46: a call, a roll call, or a frame without further effect out good. -/
theorem frameSentGood : Obligations.FrameSentGood := by
  refine fun s f => ⟨exec_frameEnd_undriven, fun driving => ?_⟩
  intro c x mine i answer
  have run : exec c s = .next (x.frameEnd f true).drainTest := exec_frameSentGood driving
  refine ⟨fun quiet => ?_, fun n body joining => ?_, fun own calling => ?_⟩
  · have still : x.frameEnd f true = x := by
      rcases quiet with data | nak | present | ⟨roll, foreign⟩
      · exact State.frameEnd_quiet x true (.inl data)
      · exact State.frameEnd_quiet x true (.inr (.inl nak))
      · exact State.frameEnd_quiet x true (.inr (.inr present))
      · exact State.frameEnd_foreign true roll foreign
    rw [run, still]
  · have ends : x.frameEnd f true = { x with station := { x.station with
        rollcallDue := false, rollcallTimer := some s.settings.answerTime } } := by
      rw [State.frameEnd, body]
      exact if_neg (not_not_intro joining)
    rw [run, ends, State.drainTest_of_not_leaving _ (by exact joining ▸ StationState.noConfusion)]
  · have engine {b : Body} (body : f.body = b) (roll : b.isRollCall = false) : x.frameEnd f true = x.engineFrameEnd f true := by
      obtain rfl : f = x.connFrame b := body ▸ own
      exact State.frameEnd_owned true roll (by exact calling ▸ Phase.noConfusion)
    have ends {b : Body} (body : f.body = b) (roll : b.isRollCall = false) {y : State} (ending : x.engineFrameEnd f true = y) :
        exec c s = .next y.drainTest := by rw [run, engine body roll, ending]
    have stays {b : Body} (body : f.body = b) (roll : b.isRollCall = false) {y : State} (ending : x.engineFrameEnd f true = y)
        (still : y.engine.phase = .calling) : exec c s = .next y :=
      (ends body roll ending).trans (next_congr (State.drainTest_of_open (still ▸ Phase.noConfusion)))
    have out (body : (∃ op w o l, f.body = .connect op w o l) ∨ ∃ o, f.body = .resume o) :
        x.engineFrameEnd f true = x.callOutGood := by
      rcases body with ⟨op, w, o, l, body⟩ | ⟨o, body⟩
      · simp only [State.engineFrameEnd, body]
        exact if_pos calling
      · simp only [State.engineFrameEnd, body]
        exact if_pos calling
    refine ⟨fun op w o l body purpose => ⟨fun wanted => ?_, fun gone => ?_⟩,
      fun o body purpose => ⟨fun wanted => ?_, fun gone => ?_⟩, fun r body => ?_⟩
    · refine stays body rfl ((out (.inl ⟨op, w, o, l, body⟩)).trans ?_) calling
      rw [State.callOutGood]
      refine (if_neg (by simpa using wanted)).trans ((if_pos purpose).trans rfl)
    · exact ends body rfl ((out (.inl ⟨op, w, o, l, body⟩)).trans (State.callOutGood_gone gone))
    · refine stays body rfl ((out (.inr ⟨o, body⟩)).trans ?_) calling
      rw [State.callOutGood]
      refine (if_neg (by simpa using wanted)).trans ((if_neg ?_).trans rfl)
      exact purpose ▸ Purpose.noConfusion
    · exact ends body rfl ((out (.inr ⟨o, body⟩)).trans (State.callOutGood_gone gone))
    · have sent : x.engineFrameEnd f true = x.withdrawSent true := by
        simp only [State.engineFrameEnd, body]
        exact if_pos calling
      refine ⟨fun first wanted => stays body rfl (sent.trans ?_) calling, fun first gone => ends body rfl (sent.trans ?_),
        fun again => stays body rfl (sent.trans ?_) calling⟩
      · exact (if_neg (by simpa using first)).trans ((if_pos rfl).trans ((if_neg (by simpa using wanted)).trans rfl))
      · exact (if_neg (by simpa using first)).trans ((if_pos rfl).trans ((if_pos gone).trans (State.leaveConnection_eq x)))
      · exact (if_pos again).trans rfl

end Sys2Proof.Machine
end

section
/-! The frames that answer and close, at their end (O47). -/

namespace Sys2Proof.Machine

/-! ### The end of a frame, good or lost (R53, R59) -/

/-- The station when its frame has ended: the data path is free and the partner has the first right to it. -/
def State.frameOver (s : State) (run : Nat) (host : HostInterface) : State :=
  { s with
    bus := { s.bus with driving := none, turn := .theirs }
    station := { s.station with collisionRun := run }
    host := host }

theorem State.frameOver_may_not (s : State) (run : Nat) (host : HostInterface) : ¬ (s.frameOver run host).mayDrive = true := by
  rw [State.mayDrive_iff]
  rintro ⟨-, turn | turn, -⟩
  · exact nomatch turn
  · exact nomatch turn

/-- A frame was lost to a collision. -/
theorem exec_collisionDetected {s : State} {f : Frame} (driving : s.bus.driving = some f) :
    exec .collisionDetected s = .next (((s.frameOver (min 4 (s.station.collisionRun + 1)) (s.host.raised .collision)).frameEnd
      f false).runTest.drainTest) := by
  show execCollisionDetected s = _
  rw [execCollisionDetected, driving]
  rfl

theorem State.runTest_of_few {s : State} (few : s.station.collisionRun < 4) : s.runTest = s :=
  if_neg fun both => absurd both.1 (not_le.mpr few)

/-- No frame's end but a roll call's touches Station Control's state. -/
theorem State.frameEnd_station {s : State} {f : Frame} (good : Bool) (roll : ∀ n, f.body ≠ .rollcall n) :
    (s.frameEnd f good).station = s.station := by
  by_cases quiet : f.body = .present
  · rw [State.frameEnd_quiet s good (.inr (.inr quiet))]
  · have call : f.body.isRollCall = false := by
      cases body : f.body
      case rollcall n => exact absurd body (roll n)
      case present => exact absurd body quiet
      all_goals rfl
    by_cases own : s.engine.phase ≠ .idle ∧ f = s.connFrame f.body
    · rw [own.2, State.frameEnd_owned good call own.1]
      exact (State.engineFrameEnd_frame s _ good).1
    · rw [State.frameEnd_foreign good call]
      by_cases idle : s.engine.phase = .idle
      · exact .inl idle
      · exact .inr fun mine => own ⟨idle, mine⟩

/-- What both ends of a frame have in common while collisions are few. -/
theorem exec_frameEnds {s : State} {f : Frame} {c : Instr} {run : Nat} {host : HostInterface} (driving : s.bus.driving = some f)
    (roll : ∀ n, f.body ≠ .rollcall n)
    (way : (c = .frameSentGood ∧ run = 0 ∧ host = s.host) ∨
      (c = .collisionDetected ∧ s.station.collisionRun < 3 ∧ run = s.station.collisionRun + 1 ∧
        host = s.host.raised .collision)) :
    ∃ good, exec c s = .next ((s.frameOver run host).frameEnd f good).drainTest := by
  rcases way with ⟨rfl, rfl, rfl⟩ | ⟨rfl, few, rfl, rfl⟩
  · exact ⟨true, exec_frameSentGood driving⟩
  · refine ⟨false, (exec_collisionDetected driving).trans (next_congr ?_)⟩
    have least : min 4 (s.station.collisionRun + 1) = s.station.collisionRun + 1 := by omega
    rw [least]
    refine congrArg State.drainTest (State.runTest_of_few ?_)
    rw [State.frameEnd_station false roll]
    exact Nat.add_lt_add_right few 1

/-! ### The points at which a target closes, when another station has the first right (R42, R90 to R92) -/

theorem State.close_undriven {s : State} (may : ¬ s.mayDrive = true) (c : ClosingFrame) :
    s.close c = { s with
      engine := { s.engine with closing := some c }
      mover := { s.mover with buffer := none, stores := [], fetch := none }, port := s.port.giveUp } :=
  State.pump_of_not_mayDrive (by exact may)

/-- From `s` to `t` at most a closing frame is decided on and the mover gives up. -/
def State.Decides (s t : State) : Prop :=
  ∃ c m p, t = { s with engine := { s.engine with closing := c }, mover := m, port := p }

theorem State.Decides.refl (s : State) : s.Decides s := ⟨_, _, _, rfl⟩

theorem State.Decides.ite {p : Prop} [Decidable p] {s t u : State} (yes : s.Decides t) (no : s.Decides u) :
    s.Decides (if p then t else u) := by
  split
  · exact yes
  · exact no

theorem State.targetPoint_undriven {s : State} (may : ¬ s.mayDrive = true) : s.Decides s.targetPoint := by
  have closed (complete : Bool) (r : DisconnectReason) : s.Decides (s.closeAt complete r) :=
    ⟨_, _, _, State.close_undriven may _⟩
  have read : s.Decides s.readPoint := .ite (.refl s) (.ite (closed ..) (.ite (closed ..) (.ite (closed ..) (.refl s))))
  have write : s.Decides s.writePoint := by
    refine .ite (.refl s) (.ite (.ite (closed ..) (.refl s)) (.ite (closed ..) ?_))
    cases s.engine.point with
    | none => exact .refl s
    | some r => exact closed ..
  refine .ite ?_ (.refl s)
  cases s.engine.phase with
  | sending => exact read
  | receiving => exact write
  | _ => exact .refl s

/-- A receiver that begins its tenure short of its point only waits. -/
theorem State.beginTenure_receiving {s : State} (receiver : s.engine.isSender = false)
    (short : s.engine.role = .initiator ∨ s.engine.op = .note ∨ s.entryProgress < s.engine.length) (start : Nat) :
    s.beginTenure start = s.begun start := by
  have phase : (s.begun start).engine.phase = .receiving := by
    show (if s.engine.isSender then Phase.sending else .receiving) = _
    rw [receiver]
    rfl
  rw [State.beginTenure_eq, State.feed_of_not_sending (phase ▸ Phase.noConfusion)]
  by_cases role : s.engine.role = .initiator
  · exact State.targetPoint_initiator (by exact role)
  · have stays : (s.begun start).writePoint = s.begun start := by
      by_cases note : s.engine.op = .note
      · unfold State.writePoint
        exact (if_neg (by simp [State.begun, Engine.begun])).trans ((if_pos note).trans rfl)
      · refine State.writePoint_stays note ?_ rfl
        exact (short.resolve_left role).resolve_left note
    unfold State.targetPoint
    rw [phase]
    exact ite_eq_right_iff.mpr fun _ => stays

/-- A sender begins its tenure at the offset; its mover may ask, and a target may be at its point already. -/
theorem State.beginTenure_sending {s : State} (may : ¬ s.mayDrive = true) (start : Nat) :
    ∃ a c m p, s.beginTenure start = { s with
      engine := { s.engine.begun start s.silenceLimit with abortDue := a, closing := c }, mover := m, port := p } := by
  have fed := (State.MoverStep.feed (s.begun start)).blocks
  have closed : ¬ (s.begun start).feed.mayDrive = true := by
    rw [State.MoverStep.blocks (State.MoverStep.feed (s.begun start))]
    exact may
  obtain ⟨c, m, p, point⟩ := State.targetPoint_undriven closed
  let f := (s.begun start).feed
  refine ⟨f.engine.abortDue, c, m, p, ?_⟩
  rw [State.beginTenure_eq, point]
  exact congrArg (fun t : State => ({ t with engine := { t.engine with closing := c }, mover := m, port := p } : State)) fed

theorem AbortCause.outcome_eq (c : AbortCause) :
    c.outcome = (match c with
      | .cancelled => .cancelled
      | .link d => .linkError d
      | .localFault d => .localFault d : ExchangeOutcome) := by
  cases c <;> rfl

theorem AbortCause.outcome_undone (c : AbortCause) : c.outcome ≠ .done := by
  cases c <;> exact fun done => nomatch done

/-- The point of a WRITE or NOTE target that has nothing left to write and owes no ACK (R42, R91, R92). -/
theorem State.targetPoint_receiving {s : State} (at' : s.engine.role = .target ∧ s.engine.phase = .receiving ∧
    s.engine.closing = none ∧ s.engine.abortDue = none ∧ s.mover.stores = [] ∧ s.engine.ackDue = false) :
    s.targetPoint =
      if s.engine.op = .note then if s.engine.writtenSeq.isSome then s.closeAt true .tenure else s
      else if s.engine.length ≤ s.entryProgress then s.closeAt true .tenure
      else match s.engine.point with
        | some r => s.closeAt false r
        | none => s := by
  obtain ⟨role, phase, undecided, due, stores, ack⟩ := at'
  refine (if_pos ⟨role, due, undecided⟩).trans ?_
  rw [phase]
  exact if_neg (by simp [stores, ack])

/-- A receiver that is not at its point does nothing when its ACK has been sent. -/
theorem State.targetPoint_receiving_stays {s : State} (phase : s.engine.phase = .receiving)
    (not : s.engine.role = .initiator ∨ s.engine.closing.isSome = true ∨ s.engine.abortDue.isSome = true ∨ s.mover.stores ≠ [] ∨
      s.engine.ackDue = true ∨ (s.engine.op = .write ∧ s.entryProgress < s.engine.length ∧ s.engine.point = none)) :
    s.targetPoint = s := by
  have write : s.mover.stores ≠ [] ∨ s.engine.ackDue = true → s.writePoint = s := fun waits => if_pos waits
  have at' (stays : s.writePoint = s) : s.targetPoint = s := by
    refine ite_eq_right_iff.mpr fun _ => ?_
    rw [phase]
    exact stays
  rcases not with role | decided | due | stores | ack | ⟨op, left, none⟩
  · exact State.targetPoint_initiator role
  · exact if_neg fun all => by simp [all.2.2] at decided
  · exact if_neg fun all => by simp [all.2.1] at due
  · exact at' (write (.inl stores))
  · exact at' (write (.inr ack))
  · exact at' (State.writePoint_stays (op ▸ Operation.noConfusion) left none)

end Sys2Proof.Machine
end

section
/-! Calls lost to a collision, and the fourth collision in a row (O47). -/

namespace Sys2Proof.Machine

/-! ### A call lost (R78, R9, R105) -/

/-- The lost CONNECT counts at its slot; the fourth returns it to the ready list. -/
theorem State.callCollided_selected {s : State} {i : SlotId} (selected : (s.slot i).state = .selected) :
    s.callCollided i = { s with
      sched := if 4 ≤ (s.slot i).collisions + 1 then s.sched.queued i { s.slot i with collisions := 0 }
      else s.sched.put i { s.slot i with collisions := (s.slot i).collisions + 1 } } := by
  refine (if_neg (not_not_intro selected)).trans ?_
  by_cases fourth : 4 ≤ (s.slot i).collisions + 1
  · rw [if_pos fourth]
    exact (if_pos fourth).trans (State.queueSlot_setSlot (.inr (.inr selected)))
  · rw [if_neg fourth]
    exact if_neg fourth

theorem State.callLost_eq (s : State) :
    s.callLost = if s.engine.purpose = .connect ∧ s.engine.wantGone = false then s.offConnection.callCollided s.engine.tag.slot
      else s.offConnection := by
  unfold State.callLost
  rw [State.leaveConnection_eq]

/-! ### What the end of a frame leaves of the Exchange Table (R27) -/

/-- The same slots are live, and nothing entered FINISHED. -/
def Scheduler.Alike (c d : Scheduler) : Prop :=
  d.finished = c.finished ∧ ∀ j, (d.slot j).state.live = (c.slot j).state.live

theorem Scheduler.Alike.of_eq {c d : Scheduler} (same : d = c) : c.Alike d := same ▸ ⟨rfl, fun _ => rfl⟩

theorem Scheduler.Alike.put {c : Scheduler} {i : SlotId} {x : Slot} (live : x.state.live = (c.slot i).state.live) :
    c.Alike (c.put i x) := by
  refine ⟨rfl, fun j => ?_⟩
  rw [Scheduler.slot_put]
  split
  case isTrue same => rw [same, live]
  case isFalse => rfl

theorem Scheduler.Alike.queued {c : Scheduler} {i : SlotId} {x : Slot} (live : (c.slot i).state.live = true) :
    c.Alike (c.queued i x) := by
  refine ⟨rfl, fun j => ?_⟩
  rw [Scheduler.slot_queued]
  split
  case isTrue same => rw [same, live]; rfl
  case isFalse => rfl

theorem State.callCollided_alike (s : State) (i : SlotId) : s.sched.Alike (s.callCollided i).sched := by
  by_cases selected : (s.slot i).state = .selected
  · rw [State.callCollided_selected selected]
    have live : (s.sched.slot i).state.live = true := by
      rw [show (s.sched.slot i).state = .selected from selected]
      rfl
    dsimp only
    split
    · exact .queued live
    · exact .put rfl
  · exact .of_eq (congrArg State.sched (if_pos selected))

theorem State.callLost_alike (s : State) : s.sched.Alike s.callLost.sched := by
  rw [State.callLost_eq]
  split
  · exact State.callCollided_alike s.offConnection _
  · exact .of_eq rfl

/-- No frame lost but an ABORT ends a slot. -/
theorem State.frameEnd_alike (s : State) {f : Frame} (abort : ∀ r, f.body ≠ .abort r) :
    s.sched.Alike (s.frameEnd f false).sched := by
  have ite {p : Prop} [Decidable p] {t u : State} (yes : s.sched.Alike t.sched) (no : s.sched.Alike u.sched) :
      s.sched.Alike (if p then t else u).sched := by
    split
    · exact yes
    · exact no
  have same : s.sched.Alike s.sched := .of_eq rfl
  have call : s.sched.Alike (if s.engine.phase = .calling then s.callLost else s).sched := ite s.callLost_alike same
  have engine : s.sched.Alike (s.engineFrameEnd f false).sched := by
    unfold State.engineFrameEnd
    cases body : f.body with
    | connect | resume => exact call
    | withdraw => exact ite (ite same s.callLost_alike) same
    | abort r => exact absurd body (abort r)
    | accept => exact ite (.of_eq (by simp)) same
    | refuse => exact ite (.of_eq rfl) same
    | finish | disconnect | endConnection | ack => exact .of_eq (by simp)
    | data | nak | rollcall | present => exact same
  unfold State.frameEnd
  cases f.body with
  | rollcall => exact ite same (ite same same)
  | present => exact same
  | _ => exact ite engine same

/-- An ABORT that was driven ends the ACTIVE slot of its initiator with the outcome of its cause (R97). -/
theorem State.abortDriven_active {s : State} {c : AbortCause} (role : s.engine.role = .initiator)
    (active : (s.slot s.engine.tag.slot).state = .active) (due : s.engine.abortDue = some c) :
    s.abortDriven = { s.offConnection with sched := s.sched.ended s.engine.tag.slot c.outcome } := by
  have live : (s.offConnection.slot s.engine.tag.slot).state.live = true := by
    rw [show (s.offConnection.slot s.engine.tag.slot).state = .active from active]
    rfl
  rw [State.abortDriven, due]
  exact (State.endSide_initiator role c.outcome).trans ((if_pos active).trans
    ((congrArg (·.finishSlot s.engine.tag.slot c.outcome) (State.leaveConnection_eq s)).trans
      (State.finishSlot_of_live live c.outcome_undone)))

/-- An ABORT that was driven ends no other slot. -/
theorem State.abortDriven_sched (s : State) :
    s.abortDriven.sched = s.sched ∨ ∃ i o, s.abortDriven.sched = s.sched.ended i o := by
  cases due : s.engine.abortDue with
  | none =>
    rw [State.abortDriven, due]
    exact .inl rfl
  | some c =>
    cases role : s.engine.role with
    | initiator =>
      by_cases active : (s.slot s.engine.tag.slot).state = .active
      · rw [State.abortDriven_active role active due]
        exact .inr ⟨_, _, rfl⟩
      · rw [State.abortDriven, due]
        dsimp only
        rw [State.endSide_initiator role, if_neg active, State.leaveConnection_eq]
        exact .inl rfl
    | target =>
      rw [State.abortDriven, due]
      dsimp only
      rw [State.endSide_target role, State.leaveConnection_eq]
      exact .inl (State.dropEntry_frame _ _).2.1

/-- The end of any frame leaves every live slot live, or FINISHED. -/
theorem State.frameEnd_lives (s : State) (f : Frame) {j : SlotId} (live : (s.slot j).state.live = true) :
    ((s.frameEnd f false).slot j).state.live = true ∨ ((s.frameEnd f false).slot j).state = .finished := by
  by_cases abort : ∃ r, f.body = .abort r
  · obtain ⟨r, body⟩ := abort
    have ends : s.frameEnd f false = if s.ownsFrame f then s.abortDriven else s := by
      simp only [State.frameEnd, State.engineFrameEnd, body]
    rw [ends]
    split
    · rcases s.abortDriven_sched with same | ⟨i, o, ended⟩
      · exact .inl ((congrArg (·.state.live) (State.slot_of_sched same j)).trans live)
      · have slot : s.abortDriven.slot j = _ := (congrArg (Scheduler.slot · j) ended).trans (Scheduler.slot_ended ..)
        rw [slot]
        split
        · exact .inr rfl
        · exact .inl live
    · exact .inl live
  · exact .inl (((s.frameEnd_alike fun r body => abort ⟨r, body⟩).2 j).trans live)

/-- A frame's end outside JOINING leaves Station Control alone. -/
theorem State.frameEnd_station_of_joined {s : State} (joined : s.station.state ≠ .joining) (f : Frame) (good : Bool) :
    (s.frameEnd f good).station = s.station := by
  by_cases roll : ∃ n, f.body = .rollcall n
  · obtain ⟨n, body⟩ := roll
    have ends : s.frameEnd f good = s := by
      rw [State.frameEnd, body]
      exact if_pos joined
    rw [ends]
  · exact State.frameEnd_station good fun n body => roll ⟨n, body⟩

/-! ### The fourth collision in a row (R159) -/

theorem State.conflictSlots_eq (s : State) : s.conflictSlots = { s with
    sched := s.sched.endAll .left (slotIds.filter fun j => (s.slot j).state.live) } :=
  State.finishWhere_eq s ExchangeOutcome.noConfusion fun _ => id

/-- The station after ID_CONFLICT: every live slot has ended LEFT, in slot order. -/
theorem State.idConflict_blocks (s : State) :
    s.idConflict.sched = s.sched.endAll .left (slotIds.filter fun j => (s.slot j).state.live) ∧
      s.idConflict.station.state = .offline ∧ s.idConflict.station.cause = .idConflict ∧
      s.idConflict.bus.holdsLine = false ∧ s.idConflict.bus.driving = none ∧ s.idConflict.engine = .idle ∧
      s.idConflict.service.entries = [] ∧ s.idConflict.notes.stored = [] ∧ s.idConflict.flag .stateChanged = true := by
  have loads (u : State) : u.stopLoad = { u with loader := u.stopLoad.loader } := by
    unfold State.stopLoad
    split <;> rfl
  have conflict : s.idConflict = ((({ s.engineIdle with notes := .empty } : State).stopLoad.conflictSlots).emptyTable).goOffline
      .idConflict := rfl
  rw [loads, State.conflictSlots_eq, State.emptyTable_eq] at conflict
  rw [conflict]
  exact ⟨rfl, rfl, rfl, rfl, rfl, rfl, rfl, rfl, State.flag_raise_self ..⟩

/-- Settles O47: the frames that answer and close, calls lost, and the fourth collision in a row. -/
theorem frameEndsAndCollisions : Obligations.FrameEndsAndCollisions := by
  refine ⟨fun s b c run host driving entered busy way => ?_, fun s f driving => ?_⟩
  · intro x k i
    have may : ¬ x.mayDrive = true := s.frameOver_may_not run host
    have quiet (silent : (∃ q p, b = .data q p) ∨ (∃ q, b = .nak q) ∨ b = .present) : exec c s = .next x.drainTest := by
      have roll : ∀ n, (s.connFrame b).body ≠ .rollcall n := by
        rcases silent with ⟨q, p, rfl⟩ | ⟨q, rfl⟩ | rfl <;> exact fun n => Body.noConfusion
      obtain ⟨good, ends⟩ := exec_frameEnds driving roll way
      rw [ends, State.frameEnd_quiet _ good silent]
      rfl
    have ends (call : b.isRollCall = false) : ∃ good, exec c s = .next (x.engineFrameEnd (s.connFrame b) good).drainTest := by
      obtain ⟨good, ends⟩ := exec_frameEnds driving (fun n body => nomatch (congrArg Body.isRollCall body).symm.trans call) way
      exact ⟨good, ends.trans (next_congr (congrArg State.drainTest (State.frameEnd_owned (s := x) good call busy)))⟩
    have reaches (call : b.isRollCall = false) {y : State} (frame : ∀ good, x.engineFrameEnd (s.connFrame b) good = y) :
        exec c s = .next y.drainTest := by
      obtain ⟨good, ends⟩ := ends call
      rw [ends, frame good]
    have stays (call : b.isRollCall = false) {y : State} (frame : ∀ good, x.engineFrameEnd (s.connFrame b) good = y)
        (isOpen : y.engine.phase ≠ .idle) : exec c s = .next y := by
      rw [reaches call frame, State.drainTest_of_open isOpen]
    have off : x.leaveConnection = x.offConnection := State.leaveConnection_eq x
    refine ⟨quiet, fun o body answering receiver short => ?_, fun o body answering sender => ?_, fun r body answering => ?_,
      fun q body => ?_, fun body closing => ?_, fun body closing sent => ?_, fun r cause body due => ?_⟩
    · subst body
      refine stays rfl (fun good => (if_pos answering).trans
        ((State.beginTenure_receiving (s := x) receiver short o).trans ?_)) Phase.noConfusion
      simp only [State.begun, Engine.begun, show x.engine.isSender = false from receiver, Bool.false_eq_true, if_false]
      rfl
    · subst body
      obtain ⟨a, cl, m, p, begun⟩ := State.beginTenure_sending (s := x) may o
      have phase : (x.engine.begun o x.silenceLimit).phase = .sending := if_pos sender
      refine ⟨_, stays rfl (fun good => (if_pos answering).trans begun) (by exact phase ▸ Phase.noConfusion), rfl, phase, rfl, rfl,
        rfl, rfl, if_pos sender⟩
    · subst body
      refine (reaches rfl fun good => if_pos answering).trans (next_congr (congrArg State.drainTest ?_))
      rfl
    · subst body
      intro decides point
      have closed (complete : Bool) (r : DisconnectReason) : x.closeAt complete r = _ := State.close_undriven may _
      have busy' : x.engine.phase ≠ .idle := busy
      refine ⟨fun at' note written => ?_, fun at' write => ⟨fun all => ?_, fun left r reason => ?_⟩, fun not receiving => ?_⟩
      · refine stays rfl (fun good => (State.targetPoint_receiving (s := x) at').trans ?_) busy
        exact ((if_pos note).trans (if_pos written)).trans ((closed true .tenure).trans rfl)
      · refine stays rfl (fun good => (State.targetPoint_receiving (s := x) at').trans ?_) busy
        exact ((if_neg (by exact write ▸ Operation.noConfusion)).trans (if_pos all)).trans ((closed true .tenure).trans rfl)
      · refine stays rfl (fun good => (State.targetPoint_receiving (s := x) at').trans ?_) busy
        refine ((if_neg (by exact write ▸ Operation.noConfusion)).trans (if_neg (not_le.mpr left))).trans ?_
        rw [show x.engine.point = some r from reason]
        exact (closed false r).trans rfl
      · exact stays rfl (fun good => State.targetPoint_receiving_stays (s := x) receiving not) busy
    · have closes (good : Bool) : x.engineFrameEnd (s.connFrame b) good = x.closingDriven := by
        rcases body with ⟨n, rfl⟩ | ⟨r, o, rfl⟩ <;> rfl
      have call : b.isRollCall = false := by rcases body with ⟨n, rfl⟩ | ⟨r, o, rfl⟩ <;> rfl
      refine ⟨fun first => stays call (fun good => (closes good).trans ((if_pos closing).trans ?_)) Phase.noConfusion,
        fun again => stays call (fun good => (closes good).trans ((if_pos closing).trans ?_)) busy⟩
      · exact congrArg State.startCloseTimer (if_neg first)
      · exact congrArg State.startCloseTimer (if_pos again)
    · subst body
      refine ⟨fun holder => reaches rfl fun good => (if_pos ⟨closing, sent⟩).trans ?_,
        fun answering => stays rfl (fun good => (if_pos ⟨closing, sent⟩).trans ?_) busy⟩
      · rw [show x.engine.busRole = .holder from holder]
        exact off
      · rw [show x.engine.busRole = .answering from answering]
        rfl
    · subst body
      intro outcome
      have same : cause.outcome = outcome := cause.outcome_eq
      have side (good : Bool) : x.engineFrameEnd (s.connFrame (.abort r)) good = x.endSide outcome := by
        show x.abortDriven = _
        unfold State.abortDriven
        rw [show x.engine.abortDue = some cause from due, ← same]
      refine ⟨fun role active => ?_, fun role idle => ?_, fun role none => ?_, fun role e found stamp => ?_⟩
      · have live : (s.slot i).state.live = true := by rw [active]; rfl
        have ended : x.endSide outcome = { x.offConnection with sched := s.sched.ended i outcome } := by
          rw [State.endSide_initiator (by exact role), if_pos (by exact active), off]
          exact State.finishSlot_of_live (s := x.offConnection) live (same ▸ cause.outcome_undone)
        refine (reaches rfl fun good => (side good).trans ended).trans (next_congr (State.drainTest_of_slot (i := i) ?_))
        exact (State.slot_ended x.offConnection i outcome false) ▸ SlotState.noConfusion
      · exact reaches rfl fun good => (side good).trans (by
          rw [State.endSide_initiator (by exact role), if_neg (by exact idle), off])
      · exact reaches rfl fun good => (side good).trans (by
          rw [State.endSide_target (by exact role), off]
          exact State.dropEntry_of_none _ _ none)
      · exact reaches rfl fun good => (side good).trans (by
          rw [State.endSide_target (by exact role), off, State.dropEntry_found (by exact found),
            State.removeEntry_idle (by exact found) (by exact entered) rfl, stamp]
          rfl)
  · intro c x i mine
    have run : exec c s = .next ((x.frameEnd f false).runTest.drainTest) := exec_collisionDetected driving
    have few (short : s.station.collisionRun < 3) {y : State} (ending : x.frameEnd f false = y)
        (station : y.station = x.station) : exec c s = .next y.drainTest := by
      rw [run, ending, State.runTest_of_few]
      rw [station]
      show min 4 (s.station.collisionRun + 1) < 4
      omega
    refine ⟨fun short roll foreign => ?_, fun short present => ?_, fun short own calling => ?_, fun n body joining => ?_,
      fun many member => ?_⟩
    · exact few short (State.frameEnd_foreign (s := x) false roll foreign) rfl
    · exact few short (State.frameEnd_quiet x false (.inr (.inr present))) rfl
    · have owned {b : Body} (body : f.body = b) (roll : b.isRollCall = false) :
          x.frameEnd f false = x.engineFrameEnd (x.connFrame b) false := by
        obtain rfl : f = x.connFrame b := body ▸ own
        exact State.frameEnd_owned false roll (by exact calling ▸ Phase.noConfusion)
      have off (not : ¬ (s.engine.purpose = .connect ∧ s.engine.wantGone = false)) : x.callLost = x.offConnection :=
        (State.callLost_eq x).trans (if_neg not)
      refine ⟨fun op w o l body purpose => ?_, fun o body purpose => ?_, fun r body purpose => ⟨fun first => ?_, fun again => ?_⟩⟩
      · intro lost sched
        have ends : x.frameEnd f false = x.callLost := (owned body rfl).trans (if_pos calling)
        refine ⟨fun wanted selected => ?_, fun gone => few short (ends.trans (off ?_)) rfl⟩
        · have counted : x.callLost = { x.offConnection with sched := sched } :=
            (State.callLost_eq x).trans ((if_pos ⟨purpose, wanted⟩).trans (State.callCollided_selected (s := x.offConnection) selected))
          refine (few short (ends.trans counted) rfl).trans (next_congr (State.drainTest_of_slot (i := i) ?_))
          show (sched.slot i).state ≠ .free
          simp only [sched]
          split
          · rw [Scheduler.slot_queued, if_pos rfl]
            exact SlotState.noConfusion
          · rw [Scheduler.slot_put, if_pos rfl]
            exact (show lost.state = .selected from selected) ▸ SlotState.noConfusion
        · exact fun both => nomatch both.2.symm.trans gone
      · have ends : x.frameEnd f false = x.callLost := (owned body rfl).trans (if_pos calling)
        exact few short (ends.trans (off fun both => nomatch both.1.symm.trans purpose)) rfl
      · have ends : x.frameEnd f false = x.withdrawSent false := (owned body rfl).trans (if_pos calling)
        have sent : x.withdrawSent false = x.callLost := (if_neg (by simpa using first)).trans (if_neg (by decide))
        exact few short (ends.trans (sent.trans (off fun both => nomatch both.1.symm.trans purpose))) rfl
      · have ends : x.frameEnd f false = x.withdrawSent false := (owned body rfl).trans (if_pos calling)
        refine (few short (ends.trans (if_pos again)) rfl).trans (next_congr (State.drainTest_of_open ?_))
        exact calling ▸ Phase.noConfusion
    · have ends : x.frameEnd f false = x.goOffline .idConflict := by
        rw [State.frameEnd, body]
        exact (if_neg (not_not_intro joining)).trans (if_neg (by decide))
      have tested : (x.goOffline .idConflict).runTest = x.goOffline .idConflict :=
        if_neg fun both => both.2.elim StationState.noConfusion StationState.noConfusion
      refine ⟨x.goOffline .idConflict, ?_, rfl, rfl, rfl, ?_, State.flag_raise_self ..⟩
      · rw [run, ends, tested, State.drainTest_of_not_leaving _ StationState.noConfusion]
      · exact ((State.EventsKept.refl x).goOffline .idConflict).2 .collision (State.flag_raise_self s .collision)
    · have joined : x.station.state ≠ .joining := by
        rcases member with state | state <;> exact fun joining => nomatch joining.symm.trans state
      let y : State := x.frameEnd f false
      have station : y.station = x.station := State.frameEnd_station_of_joined joined f false
      have tested : y.runTest = y.idConflict := by
        refine if_pos ⟨?_, ?_⟩
        · rw [station]
          show 4 ≤ min 4 (s.station.collisionRun + 1)
          omega
        · rw [station]
          exact member
      obtain ⟨sched, offline, cause, line, path, idle, entries, notes, changed⟩ := y.idConflict_blocks
      have nodup : slotIds.Nodup := by decide
      have slot (j : SlotId) : y.idConflict.slot j = if (y.slot j).state.live then (y.slot j).ended .left else y.slot j := by
        refine (congrArg (Scheduler.slot · j) sched).trans ((Scheduler.slot_endAll (nodup.filter _) j).trans ?_)
        simp only [mem_filter_slotIds]
        rfl
      refine ⟨y.idConflict, ?_, offline, cause, line, path, idle, entries, notes, fun j => ?_, fun j live => ?_, fun abort => ?_,
        fun own abort busy role active d due => ?_, ?_, changed⟩
      · rw [run, tested, State.drainTest_of_not_leaving _ (by exact offline ▸ StationState.noConfusion)]
      · rw [slot j]
        split
        case isTrue => rfl
        case isFalse dead => simpa using dead
      · rw [slot j]
        split
        case isTrue => rfl
        case isFalse dead => exact (x.frameEnd_lives f (by exact live)).resolve_left dead
      · obtain ⟨finished, alive⟩ := x.frameEnd_alike abort
        refine ⟨fun j live => ?_, ?_⟩
        · rw [slot j, if_pos (by exact (alive j).trans live)]
          rfl
        · rw [sched, Scheduler.finished_endAll]
          exact congrArg₂ (· ++ ·) finished (List.filter_congr fun j _ => alive j)
      · obtain ⟨r, body⟩ := abort
        have ends : y = x.abortDriven := by
          obtain rfl : f = x.connFrame (.abort r) := body ▸ own
          exact State.frameEnd_owned false rfl busy
        have ended : y.sched = x.sched.ended i (.localFault d) := by
          rw [ends, State.abortDriven_active (s := x) role active due]
          rfl
        have mine : y.slot i = (x.slot i).ended (.localFault d) :=
          (congrArg (Scheduler.slot · i) ended).trans ((Scheduler.slot_ended ..).trans (if_pos rfl))
        rw [slot i, mine]
        rfl
      · exact ((State.EventsKept.refl x).frameEnd f false).idConflict.2 .collision (State.flag_raise_self s .collision)

end Sys2Proof.Machine
end

section
/-! The frames that this station drives at its own turn: DATA, ACK, the closing frame and ABORT (O48). -/

namespace Sys2Proof.Machine

/-! ### The cause of an ABORT that is due (R20, R97) -/

/-- Whether an open tenure has a cancel of its ACTIVE slot pending. -/
def State.cancelDue (s : State) : Prop :=
  s.engine.role = .initiator ∧ s.ownSlot.state = .active ∧ s.ownSlot.cancelRequested = true

theorem State.abortCause?_settled {s : State} {c : AbortCause} (due : s.engine.abortDue = some c) : s.abortCause? = some c := by
  rw [State.abortCause?, due]

theorem State.abortCause?_cancel {s : State} (none : s.engine.abortDue = none) (cancels : s.cancelDue)
    (tenure : s.engine.phase = .sending ∨ s.engine.phase = .receiving ∨ s.engine.phase = .awaitingFinish) :
    s.abortCause? = some .cancelled := by
  obtain ⟨role, active, cancel⟩ := cancels
  rw [State.abortCause?, none]
  exact if_pos ⟨role, active, cancel, tenure⟩

theorem State.abortCause?_eq_none {s : State} (none : s.engine.abortDue = none) (not : ¬ s.cancelDue ∨
    ¬ (s.engine.phase = .sending ∨ s.engine.phase = .receiving ∨ s.engine.phase = .awaitingFinish)) :
    s.abortCause? = Option.none := by
  rw [State.abortCause?, none]
  exact if_neg fun all => not.elim (fun quiet => quiet ⟨all.1, all.2.1, all.2.2.1⟩) fun out => out all.2.2.2

/-! ### DATA (R84, R86) -/

theorem Engine.resend?_of_none {e : Engine} (fresh : ∀ g ∈ e.unacked, g.pos ≠ e.sendPos) : e.resend? = none :=
  List.find?_eq_none.mpr fun g mem => by simpa using fresh g mem

theorem Engine.resend?_of_split {e : Engine} {before after : List SentFrame} {g : SentFrame}
    (list : e.unacked = before ++ g :: after) (others : ∀ y ∈ before, y.pos ≠ e.sendPos) (pos : g.pos = e.sendPos) :
    e.resend? = some g := by
  have none : before.find? (fun f => decide (f.pos = e.sendPos)) = none :=
    List.find?_eq_none.mpr fun y mem => by simpa using others y mem
  rw [Engine.resend?, list, List.find?_append, none, Option.none_or]
  exact List.find?_cons_of_pos (decide_eq_true pos)

/-- The frame of payload `b` that the sender drives next. -/
def State.sentFrame (s : State) (b : PayloadBuffer) : SentFrame :=
  { seq := s.engine.resend?.elim s.engine.nextSeq (·.seq), pos := b.pos, len := b.len
    retries := s.engine.resend?.elim 0 fun f => f.retries + 1, endCursor := s.mover.working }

/-- The Engine when it begins to drive that frame. -/
def State.sending (s : State) (b : PayloadBuffer) : Engine :=
  { s.engine with
    unacked := if s.engine.resend?.isSome then s.engine.unacked.map fun g => if g.seq = (s.sentFrame b).seq then s.sentFrame b else g
      else s.engine.unacked ++ [s.sentFrame b]
    nextSeq := if s.engine.resend?.isSome then s.engine.nextSeq else s.engine.nextSeq + 1
    sendPos := s.engine.sendPos + b.len
    tenureCount := if s.engine.role = .target ∧ s.engine.resend?.isNone then s.engine.tenureCount + 1 else s.engine.tenureCount
    ackTimer := s.engine.ackTimer.or (some s.settings.ackTime) }

/-- A ready payload is driven, and the mover reads the next. -/
theorem State.sendDataFrame_ready {s : State} {b : PayloadBuffer} (buffer : s.mover.buffer = some b)
    (phase : s.engine.phase = .sending) (quiet : s.abortCause? = none) (may : s.mayDrive = true) (whole : b.bytes.length = b.len)
    (next : s.nextFrame? = some (b.pos, b.len)) :
    ∃ a m p, s.sendDataFrame = { s with
      bus := { s.bus with driving := some (s.connFrame (.data (s.sentFrame b).seq b.bytes)) }
      engine := { s.sending b with abortDue := a }, mover := m, port := p } := by
  let d : State := { s with
    bus := { s.bus with driving := some (s.connFrame (.data (s.sentFrame b).seq b.bytes)) }
    engine := s.sending b, mover := { s.mover with buffer := none } }
  have driven : s.sendDataFrame = d.checkRetries.feed := by
    unfold State.sendDataFrame
    rw [buffer]
    exact if_pos ⟨phase, quiet, may, whole ▸ le_refl _, next⟩
  exact ⟨_, _, _, driven.trans ((State.MoverStep.checkRetries d).trans (State.MoverStep.feed _)).blocks⟩

theorem State.nextFrame?_fresh {s : State} (resend : s.engine.resend? = none) (credit : s.engine.unacked.length < 4)
    (left : s.engine.sendPos < s.engine.length) (free : s.stopped = false) :
    s.nextFrame? = some (s.engine.sendPos, min 256 (s.engine.length - s.engine.sendPos)) := by
  rw [State.nextFrame?, resend]
  exact if_pos ⟨credit, left, free⟩

theorem State.nextFrame?_again {s : State} {g : SentFrame} (resend : s.engine.resend? = some g) (few : g.retries < 3) :
    s.nextFrame? = some (g.pos, g.len) := by
  rw [State.nextFrame?, resend]
  exact if_pos few

/-- Settles O48: what each of the frames of the open connection needs to be driven. -/
theorem framesDriven : Obligations.FramesDriven := by
  refine ⟨fun s => ?_, fun s cl quiet turn isOpen closing first ack role due outbox => ?_, fun s => ?_⟩
  · intro turn cancels abortDue
    have may_iff : s.mayDrive = true ↔ turn := s.mayDrive_iff
    have quiet (not : ¬ abortDue) : s.abortCause? = none :=
      State.abortCause?_eq_none (by_contra fun due => not (.inl due)) (.inl fun due => not (.inr due))
    have due (is : abortDue) (tenure : s.engine.phase = .sending ∨ s.engine.phase = .receiving) : s.abortCause? ≠ none := by
      by_cases settled : s.engine.abortDue = none
      · rw [State.abortCause?_cancel settled (is.resolve_left (not_not_intro settled)) (tenure.imp id .inl)]
        exact Option.some_ne_none _
      · obtain ⟨c, cause⟩ := Option.ne_none_iff_exists'.mp settled
        rw [State.abortCause?_settled cause]
        exact Option.some_ne_none _
    refine ⟨fun not => ⟨next_congr ?_, next_congr ?_⟩, fun mine not phase b buffer pos whole => ?_,
      fun mine not phase owed q written => ?_⟩
    · unfold State.sendDataFrame
      split
      · rfl
      · exact if_neg fun all => not.elim (fun other => other (may_iff.mp all.2.2.1)) fun is => due is (.inl all.1) all.2.1
    · unfold State.sendAckFrame
      split
      · rfl
      · exact if_neg fun all => not.elim (fun other => other (may_iff.mp all.2.2.2)) fun is => due is (.inr all.1) all.2.1
    · intro drives
      refine ⟨fun free credit left fresh len => ?_, fun before g after list others at' few len => ?_⟩
      · have resend := Engine.resend?_of_none fresh
        have next : s.nextFrame? = some (b.pos, b.len) := by rw [State.nextFrame?_fresh resend credit left free, pos, len]
        obtain ⟨a, m, p, sent⟩ := State.sendDataFrame_ready buffer phase (quiet not) (may_iff.mpr mine) whole next
        have frame : s.sentFrame b =
            { seq := s.engine.nextSeq, pos := b.pos, len := b.len, retries := 0, endCursor := s.mover.working } := by
          rw [State.sentFrame, resend]
          rfl
        refine ⟨_, ⟨next_congr sent, rfl, by rw [frame], rfl, rfl⟩, ?_, ?_, ?_⟩
        · simp only [State.sending, resend, frame]
          rfl
        · simp only [State.sending, resend]
          rfl
        · simp only [State.sending, resend, Option.isNone_none, and_true]
      · have resend := Engine.resend?_of_split list others at'
        have next : s.nextFrame? = some (b.pos, b.len) := by rw [State.nextFrame?_again resend few, pos, at', len]
        obtain ⟨a, m, p, sent⟩ := State.sendDataFrame_ready buffer phase (quiet not) (may_iff.mpr mine) whole next
        have frame : s.sentFrame b = { g with retries := g.retries + 1, endCursor := s.mover.working } := by
          rw [State.sentFrame, resend, pos, len, ← at']
          rfl
        refine ⟨_, ⟨next_congr sent, rfl, by rw [frame], rfl, rfl⟩, ?_, ?_, ?_⟩
        · simp only [State.sending, resend, frame]
          rfl
        · simp only [State.sending, resend]
          rfl
        · simp only [State.sending, resend, Option.isNone_some, Bool.false_eq_true, and_false, if_false]
    · refine next_congr ?_
      unfold State.sendAckFrame
      rw [written]
      exact (if_pos ⟨phase, quiet not, owed, may_iff.mpr mine⟩).trans rfl
  · refine next_congr ((if_pos ⟨Option.isNone_iff_eq_none.mpr quiet, turn⟩).trans ?_)
    refine (State.pump_empty (by exact outbox) (State.mayDrive_either (by exact quiet) (by rfl) (by exact isOpen))).trans ?_
    have none : s.abortCause? = none := State.abortCause?_eq_none due (.inl fun cancels => nomatch role.symm.trans cancels.1)
    have driven : s.closingDue? = some (s.connFrame cl.body) := by
      rw [State.closingDue?, closing]
      exact if_pos ⟨first, ack, none⟩
    refine (congrArg (fun d => ({ s with bus := { s.bus with turn := .either, driving := d } } : State)) driven).trans ?_
    cases cl <;> rfl
  · intro turn isOpen bus inTenure
    have may_iff : s.mayDrive = true ↔ turn := s.mayDrive_iff
    have silent (cause : s.abortCause? = none) : exec .sendAbort s = .next s := by
      refine next_congr ?_
      rw [State.sendAbortFrame, cause]
    refine ⟨fun cause due mine opened => next_congr ?_, fun none mine tenure role active cancel => next_congr ?_,
      fun not => next_congr ?_, fun none not => silent (State.abortCause?_eq_none none ?_)⟩
    · have driven : s.sendAbortFrame = { s with engine := { s.engine with abortDue := s.engine.abortDue }, bus := bus cause.reason } := by
        rw [State.sendAbortFrame, State.abortCause?_settled due, due]
        exact if_pos ⟨may_iff.mpr mine, opened⟩
      refine driven.trans ?_
      cases cause <;> rfl
    · have opened : isOpen := by
        rcases tenure with phase | phase | phase <;>
          exact ⟨fun h => (nomatch h.symm.trans phase), fun h => (nomatch h.symm.trans phase)⟩
      rw [State.sendAbortFrame, State.abortCause?_cancel none ⟨role, active, cancel⟩ tenure]
      exact (if_pos ⟨may_iff.mpr mine, opened⟩).trans rfl
    · unfold State.sendAbortFrame
      split
      · rfl
      · exact if_neg fun all => not.elim (fun other => other (may_iff.mp all.1)) fun closed => closed all.2
    · rcases not with out | role | uncancelled
      · exact .inr out
      · exact .inl fun cancels => nomatch role.symm.trans cancels.1
      · exact .inl fun cancels => Bool.false_ne_true (uncancelled.symm.trans cancels.2.2)

end Sys2Proof.Machine
end

section
/-! The ack timer and the close timer (O52). -/

namespace Sys2Proof.Machine

/-! ### The drain test where an entry is left -/

theorem State.drainTest_of_entries {s : State} (filled : s.service.entries ≠ []) : s.drainTest = s :=
  State.drainTest_of_not_drained (by simp [State.drained, filled])

/-! ### An entry without a stamp that leaves, returns or is set aside (R35, R36, R37, R43) -/

theorem State.removeEntry_unstamped {s : State} {k : Key} {e : Entry} (found : s.entry? k = some e) (stamp : e.stamp = none)
    (entered : s.arb.entered = none) (idle : s.engine.phase = .idle) : s.removeEntry k = s.afterEntry k e.window := by
  rw [State.removeEntry_idle found entered idle, stamp]
  rfl

theorem State.readyEntry_unstamped {s : State} {k : Key} {e : Entry} (found : s.entry? k = some e) (stamp : e.stamp = none)
    (absent : k ∉ s.service.queue) : s.readyEntry k = { s with service := { s.service with
      queue := s.service.queue ++ [k]
      entries := s.service.entries.map fun f =>
        if f.key = k then { f with state := .ready, stamp := none, parkTimer := none } else f } } := by
  rw [State.readyEntry, State.queueEntry_eq found, Service.requeue, stamp, List.erase_of_not_mem absent]
  rfl

theorem State.parkEntry_absent {s : State} {k : Key} {e : Entry} (found : s.entry? k = some e)
    (online : s.station.state = .online) (connected : e.state = .connected) (absent : k ∉ s.service.queue) :
    s.parkEntry k = { s with service := { s.service with
      entries := s.service.entries.map fun f =>
        if f.key = k then
          { f with state := .parked, parkTimer := some (64 * s.settings.parkLimit)
                   stamp := some (parkedCount s.service.entries + 1) }
        else f } } := by
  rw [State.parkEntry_eq found (online ▸ StationState.noConfusion) (connected ▸ EntryState.noConfusion), Service.park,
    List.erase_of_not_mem absent]
  rfl

/-! ### A frame handed over is driven, or waits (R53) -/

theorem State.pump_frames {s : State} {f : Frame} {rest : List Frame} (outbox : s.bus.outbox = f :: rest) :
    ∃ d l, s.pump = { s with bus := { s.bus with driving := d, outbox := l } } ∧
      ({ s.bus with driving := d, outbox := l } : Bus).frames = s.bus.frames := by
  rcases s.pump_cases with same | ⟨g, l, list, may, -, driven⟩ | ⟨_, empty, _⟩
  · exact ⟨_, _, same, rfl⟩
  · have quiet : s.bus.driving = none := (s.mayDrive_iff.mp may).1
    refine ⟨_, _, driven, ?_⟩
    simp only [Bus.frames, quiet, list]
    rfl
  · exact nomatch outbox.symm.trans empty

theorem State.send_frames (s : State) (f : Frame) :
    ∃ d l, s.send f = { s with bus := { s.bus with driving := d, outbox := l } } ∧
      ({ s.bus with driving := d, outbox := l } : Bus).frames = s.bus.frames ++ [f] := by
  let u : State := { s with bus := { s.bus with outbox := s.bus.outbox ++ [f] } }
  obtain ⟨g, rest, list⟩ := List.exists_cons_of_ne_nil (show u.bus.outbox ≠ [] from List.append_ne_nil_of_right_ne_nil _ (by simp))
  obtain ⟨d, l, pumped, frames⟩ := State.pump_frames list
  exact ⟨d, l, pumped, frames.trans (List.append_assoc ..).symm⟩

/-! ### The close timer (R95, R109) -/

theorem State.closeExpired_withdraw {s : State} (withdraws : s.engine.phase = .calling ∧ s.engine.purpose = .withdraw) :
    s.closeExpired = if s.engine.closeRetries < 3 then
      s.closeAgain (.withdraw (((s.entry? s.engine.key).bind (·.withdrawReason)).getD .parkLimit)) else s.withdrawDone :=
  if_pos withdraws

theorem State.closeExpired_closing {s : State} {cl : ClosingFrame} (closing : s.engine.phase = .closing)
    (decided : s.engine.closing = some cl) :
    s.closeExpired = if s.engine.closeRetries < 3 then s.closeAgain cl.body else s.closingDone := by
  unfold State.closeExpired
  rw [decided]
  exact if_neg fun both => nomatch both.1.symm.trans closing

/-- Settles O52: the go-back, the closing frame sent again, and the step that is done with the retries exhausted. -/
theorem ackAndCloseTimeout : Obligations.AckAndCloseTimeout := by
  refine ⟨fun s => ⟨fun stopped => next_congr ?_, fun running sending none f rest list => ?_⟩, fun s e => ?_⟩
  · exact if_neg fun both => by simp [stopped] at both
  · obtain ⟨a, m, p, back, due⟩ := State.goBack_eq list
    have expires : exec .ackTimeout s = .next s.goBack :=
      next_congr ((if_pos ⟨running, sending⟩).trans (if_neg (by simp [none])))
    exact ⟨_, expires.trans (next_congr back), rfl, rfl, rfl, rfl, sending, due none⟩
  · intro k again withdraws retired
    have expires (running : s.engine.closeTimer.isSome = true) : exec .closeTimeout s = .next s.closeExpired.drainTest :=
      next_congr (if_pos running)
    have resends {b : Body} (running : s.engine.closeTimer.isSome = true) (busy : s.engine.phase ≠ .idle)
        (sent : s.closeExpired = s.closeAgain b) : again b := by
      obtain ⟨d, l, driven, frames⟩ := State.send_frames
        { s with engine := { s.engine with closeRetries := s.engine.closeRetries + 1, closeTimer := none } } (s.connFrame b)
      have isOpen : s.closeExpired.engine.phase ≠ .idle := by
        rw [sent]
        exact (congrArg (fun t : State => t.engine.phase) driven) ▸ busy
      exact ⟨_, (expires running).trans (next_congr ((State.drainTest_of_open isOpen).trans (sent.trans driven))), rfl, rfl, frames⟩
    have off : s.leaveConnection = s.offConnection := s.leaveConnection_eq
    refine ⟨fun stopped => next_congr (if_neg (by simp [stopped])), fun running few => ⟨fun closing cl decided => ?_,
      fun calls r found reason => ?_⟩, fun running many entered found stamp => ?_⟩
    · have sent : s.closeExpired = s.closeAgain cl.body := (State.closeExpired_closing closing decided).trans (if_pos few)
      have again' := resends running (closing ▸ Phase.noConfusion) sent
      cases cl <;> exact again'
    · refine resends running (calls.1 ▸ Phase.noConfusion) ((State.closeExpired_withdraw calls).trans ((if_pos few).trans ?_))
      rw [found, Option.bind_some, reason]
      rfl
    · have found' : s.offConnection.entry? k = some e := found
      have nonempty : s.service.entries ≠ [] := List.ne_nil_of_mem (State.entry?_key found).1
      have removed : s.offConnection.removeEntry k = s.offConnection.afterEntry k e.window :=
        State.removeEntry_unstamped found' stamp entered rfl
      have done {cl : ClosingFrame} (closing : s.engine.phase = .closing) (decided : s.engine.closing = some cl) :
          s.closeExpired = s.closingDone :=
        (State.closeExpired_closing closing decided).trans (if_neg (not_lt.mpr many))
      refine ⟨fun closing connected unreserved n decided => ?_, fun calls withdrawing => ?_,
        fun closing connected ready absent r n decided => ?_, fun closing connected notReady online table r n decided => ?_⟩
      · refine (expires running).trans (next_congr (congrArg State.drainTest ?_))
        rw [done closing decided, State.closingDone_finish decided, off, State.settleFinish_connected found' connected,
          if_neg (by simp [unreserved])]
        exact removed
      · refine (expires running).trans (next_congr (congrArg State.drainTest ?_))
        rw [State.closeExpired_withdraw calls, if_neg (not_lt.mpr many), State.withdrawDone, off]
        exact removed
      · have settled : s.closeExpired = s.offConnection.readyEntry k := by
          rw [done closing decided, State.closingDone_disconnect decided, off]
          exact (State.settleDisconnect_connected found' connected).trans (if_pos ready)
        rw [expires running, settled, State.readyEntry_unstamped found' stamp absent]
        exact next_congr (State.drainTest_of_entries fun empty => nonempty (List.map_eq_nil_iff.mp empty))
      · intro kept held
        have absent : k ∉ s.service.queue :=
          Service.Table.not_queued (v := s.service) table found (Entry.waits_of_connected connected)
        have parked := State.parkEntry_absent found' online connected absent
        have keeps : (s.offConnection.parkEntry k).service.entries.any (·.keeps e.window) = true ↔ kept := by
          rw [parked]
          exact any_keeps_changed fun x => by simp [Entry.keeps]
        obtain ⟨v, host, checked, queue, entries, lost, stays⟩ :=
          (s.offConnection.parkEntry k).windowCheck_settles e.window keeps
        have settled : s.closeExpired = (s.offConnection.parkEntry k).windowCheck e.window := by
          rw [done closing decided, State.closingDone_disconnect decided, off]
          exact (State.settleDisconnect_connected found' connected).trans ((if_neg notReady).trans (State.parkAndCheck_eq found'))
        rw [parked] at checked queue entries lost stays
        rw [parked, checked] at settled
        refine ⟨{ s.offConnection with service := v, host := host }, ?_, rfl, queue, entries, lost, stays⟩
        rw [expires running, settled]
        refine next_congr (State.drainTest_of_entries fun empty => nonempty ?_)
        exact List.map_eq_nil_iff.mp (entries.symm.trans empty)

end Sys2Proof.Machine
end

section
/-! Silence, the holder's release and a round that begins (O49). -/

namespace Sys2Proof.Machine

/-! ### A side that ends in silence (R88, R89) -/

theorem State.endSilent_initiator {s : State} (role : s.engine.role = .initiator) :
    s.endSilent = if (s.slot s.engine.tag.slot).state = .active then
      s.offConnection.finishSlot s.engine.tag.slot (s.firstOutcome (.linkError .silence)) else s.offConnection := by
  unfold State.endSilent
  rw [s.leaveConnection_eq]
  dsimp only
  rw [role]
  rfl

theorem State.endSilent_target {s : State} (role : s.engine.role = .target) :
    s.endSilent = if (s.entry? s.engine.key).elim false fun x => x.state = .connected then
      s.offConnection.dropEntry s.engine.key else s.offConnection := by
  unfold State.endSilent
  rw [s.leaveConnection_eq]
  dsimp only
  rw [role]
  rfl

/-- An entry without a stamp leaves the table with SERVICE_DROPPED. -/
theorem State.dropEntry_unstamped {s : State} {k : Key} {e : Entry} (found : s.entry? k = some e) (stamp : e.stamp = none)
    (entered : s.arb.entered = none) (idle : s.engine.phase = .idle) :
    s.dropEntry k = { s.afterEntry k e.window with host := (s.afterEntry k e.window).host.raised .serviceDropped } := by
  rw [State.dropEntry_found found, State.removeEntry_unstamped found stamp entered idle]
  rfl

/-! ### An answering closer when the next round begins (R89, R95) -/

/-- The end of any frame moves only the timers of a closer without an ABORT due. -/
theorem State.frameEnd_closer {s : State} {f : Frame} (roll : f.body.isRollCall = false) (closing : s.engine.phase = .closing)
    (answering : s.engine.busRole = .answering) (none : s.engine.abortDue = none) (good : Bool) :
    ∃ a b, s.frameEnd f good = { s with engine := { s.engine with silenceTimer := a, closeTimer := b } } := by
  have same : ∃ a b, s = { s with engine := { s.engine with silenceTimer := a, closeTimer := b } } := ⟨_, _, rfl⟩
  by_cases own : f = s.connFrame f.body
  · have not {t : State} (phase : Phase) (other : Phase.closing ≠ phase) :
        ∃ a b, (if s.engine.phase = phase then t else s) = { s with engine := { s.engine with silenceTimer := a, closeTimer := b } } := by
      rw [if_neg (closing ▸ other)]
      exact same
    have closes : ∃ a b, s.closingDriven = { s with engine := { s.engine with silenceTimer := a, closeTimer := b } } := by
      unfold State.closingDriven
      rw [if_pos closing]
      split
      · exact ⟨_, _, rfl⟩
      · exact same
    rw [own, State.frameEnd_owned good roll (closing ▸ Phase.noConfusion), ← own]
    unfold State.engineFrameEnd
    cases f.body with
    | connect | resume | withdraw => exact not .calling Phase.noConfusion
    | accept | refuse => exact not .answering Phase.noConfusion
    | finish | disconnect => exact closes
    | endConnection =>
      show ∃ a b, s.endDriven = _
      unfold State.endDriven
      rw [answering]
      split
      · exact ⟨_, _, rfl⟩
      · exact same
    | abort =>
      show ∃ a b, s.abortDriven = _
      rw [State.abortDriven, none]
      exact same
    | ack =>
      show ∃ a b, s.targetPoint = _
      unfold State.targetPoint
      rw [closing, ite_self]
      exact same
    | data | nak | rollcall | present => exact same
  · rw [State.frameEnd_foreign good roll (.inr own)]
    exact same

/-- A frame of the connection that an answering closer drives is lost, and only its timers move. -/
theorem State.sentLost_closer {s : State} {f : Frame} (roll : f.body.isRollCall = false) (closing : s.engine.phase = .closing)
    (answering : s.engine.busRole = .answering) (none : s.engine.abortDue = none) (few : s.station.collisionRun < 3) :
    ∃ a b, s.sentLost f = { s.frameOver (s.station.collisionRun + 1) (s.host.raised .collision) with
      engine := { s.engine with silenceTimer := a, closeTimer := b } } := by
  let x : State := s.frameOver (s.station.collisionRun + 1) (s.host.raised .collision)
  obtain ⟨a, b, ends⟩ := State.frameEnd_closer (s := x) roll closing answering none false
  have least : min 4 (s.station.collisionRun + 1) = s.station.collisionRun + 1 := by omega
  have lost : s.sentLost f = (x.frameEnd f false).runTest.drainTest := by
    show ((s.frameOver (min 4 (s.station.collisionRun + 1)) (s.host.raised .collision)).frameEnd f false).runTest.drainTest = _
    rw [least]
  refine ⟨a, b, ?_⟩
  rw [lost, ends, State.runTest_of_few (by exact Nat.add_lt_add_right few 1),
    State.drainTest_of_open (by exact closing ▸ Phase.noConfusion)]
  rfl

/-- With a connection open this station does not contend. -/
theorem State.roundBegins_open {s : State} (free : s.bus.view = .free) (busy : s.engine.phase ≠ .idle) :
    s.roundBegins = s.roundOpens.answeringMeetsRound := by
  have out : s.roundEntry? = none := if_neg fun may => busy ((State.mayContend_iff s).mp may).2.2.2.1
  rw [State.roundBegins_of_free free, out]

/-! ### Frames that a settled tenure discards (log 49) -/

theorem Engine.inTenure_of_due {e : Engine} (due : e.abortDue.isSome = true) : e.inTenure = false := by
  obtain ⟨c, cause⟩ := Option.isSome_iff_exists.mp due
  simp [Engine.inTenure, cause]

/-- Settles O49: silence and release end a side, unless a cause has settled it; an answering closer's step is done. -/
theorem silenceAndRelease : Obligations.SilenceAndRelease := by
  refine ⟨fun s entered due => ?_, fun s h q r p o n phase due => ⟨fun delivers hears => ?_, fun d cause => ⟨?_, ?_⟩⟩⟩
  · intro i k left silent inTenure released
    have unfaulted : s.engine.faulted = false := by simp [Engine.faulted, due]
    have off : s.leaveConnection = s.offConnection := s.leaveConnection_eq
    refine ⟨fun stopped => next_congr (if_neg (by simp [stopped])), fun c way => ?_, fun away closing sent => ?_,
      fun away answering => ?_, fun free answering closing role decided e found stamp connected unreserved => ?_⟩
    · have ends : exec c s = .next s.endSilent.drainTest := by
        rcases way with ⟨rfl, running⟩ | ⟨rfl, away, tenure⟩
        · exact next_congr ((if_pos running).trans (if_neg (by simp [unfaulted])))
        · refine next_congr (congrArg State.drainTest ((if_pos away).trans ?_))
          rcases tenure with phase | phase | phase <;> rw [phase] <;> exact if_neg (by simp [unfaulted])
      rw [ends]
      refine ⟨fun role active => next_congr ?_, fun role inactive => next_congr ?_,
        fun role e found stamp => ⟨fun connected => next_congr ?_, fun unconnected => next_congr ?_⟩,
        fun role none => next_congr ?_⟩
      · have live : (s.slot i).state.live = true := by rw [active]; rfl
        have first : s.firstOutcome (.linkError .silence) = .linkError .silence := by rw [State.firstOutcome, due]; rfl
        have ended : s.endSilent = { left with sched := silent } := by
          rw [State.endSilent_initiator role, if_pos active, first]
          exact State.finishSlot_of_live (s := left) live ExchangeOutcome.noConfusion
        rw [ended]
        exact State.drainTest_of_slot (i := i) ((State.slot_ended left i (.linkError .silence) false) ▸ SlotState.noConfusion)
      · rw [State.endSilent_initiator role, if_neg inactive]
      · have drops : ((s.entry? s.engine.key).elim false fun x => x.state = .connected) = true := by
          rw [found]
          exact decide_eq_true connected
        rw [State.endSilent_target role, if_pos drops, State.dropEntry_unstamped (s := left) found stamp entered rfl]
      · have stays : ((s.entry? s.engine.key).elim false fun x => x.state = .connected) = false := by
          rw [found]
          exact decide_eq_false unconnected
        rw [State.endSilent_target role, if_neg (by simp [stays])]
      · have stays : ((s.entry? s.engine.key).elim false fun x => x.state = .connected) = false := by
          rw [none]
          rfl
        rw [State.endSilent_target role, if_neg (by simp [stays])]
    · refine next_congr (congrArg State.drainTest ((if_pos away).trans ?_))
      have idle : s.leaveConnection = s.engineIdle :=
        congrArg State.engineIdle (if_neg fun holder => nomatch holder.symm.trans away.1)
      rw [closing]
      exact (if_pos sent).trans (idle.symm.trans off)
    · refine next_congr ((congrArg State.drainTest ((if_pos away).trans ?_)).trans
        (State.drainTest_of_open (answering ▸ Phase.noConfusion)))
      rw [answering]
    · intro begun
      obtain ⟨n, finish⟩ := decided
      have busy : s.engine.phase ≠ .idle := closing ▸ Phase.noConfusion
      have round : exec .roundBegins s = .next s.roundOpens.answeringMeetsRound :=
        next_congr (State.roundBegins_open free busy)
      have settles {t u : State} (phase : t.engine.phase = .closing) (role : t.engine.busRole = .answering)
          (decided : t.engine.closing = some (.finish n)) (key : t.engine.key = k) (gone : t.offConnection = u)
          (found : u.entry? k = some e) (entered : u.arb.entered = none) (idle : u.engine.phase = .idle) :
          t.answeringEnds = u.afterEntry k e.window := by
        refine (if_pos ⟨phase ▸ Phase.noConfusion, role⟩).trans ((if_pos ⟨phase, by rw [decided]; rfl⟩).trans ?_)
        rw [State.closingDone_finish decided, State.leaveConnection_eq, key, gone,
          State.settleFinish_connected found connected, if_neg (by simp [unreserved])]
        exact State.removeEntry_unstamped found stamp entered idle
      refine ⟨fun rolls => round.trans (next_congr (congrArg State.drainTest ?_)),
        fun f driving roll few => round.trans (next_congr (congrArg State.drainTest ?_))⟩
      · have kept : (match s.bus.driving with
            | some f => if f.ofStationControl then s.roundOpens else s.roundOpens.sentLost f
            | none => s.roundOpens) = s.roundOpens := by
          cases driving : s.bus.driving with
          | none => rfl
          | some f => exact if_pos (rolls f driving)
        refine (congrArg State.answeringEnds ((if_pos ⟨busy, answering⟩).trans kept)).trans ?_
        refine settles (t := s.roundOpens) closing answering finish rfl ?_ (by exact found) (by exact entered) (by rfl)
        simp only [State.offConnection, State.roundOpens, begun, left, answering, reduceCtorEq, if_false]
        rfl
      · obtain ⟨a, b, lost⟩ := State.sentLost_closer (s := s.roundOpens) (f := f) roll closing answering due few
        have driven : (match s.bus.driving with
            | some f => if f.ofStationControl then s.roundOpens else s.roundOpens.sentLost f
            | none => s.roundOpens) = s.roundOpens.sentLost f := by
          rw [driving]
          exact if_neg (by simp [Frame.ofStationControl, roll])
        refine (congrArg State.answeringEnds ((if_pos ⟨busy, answering⟩).trans (driven.trans lost))).trans ?_
        refine settles (by exact closing) (by exact answering) (by exact finish) rfl ?_ (by exact found) (by exact entered) (by rfl)
        simp [State.offConnection, State.roundOpens, State.frameOver, begun, left, answering, driving, roll, Option.filter]
  · let u : State := (s.heardFrom h).yielding s.waiting
    have out : u.engine.inTenure = false := Engine.inTenure_of_due due
    have calling : u.engine.awaitsAnswer = false :=
      Engine.not_awaits (by rcases phase with phase | phase | phase <;> exact phase ▸ Phase.noConfusion)
    have isOpen : u.engine.afterEnd = false := by
      rcases phase with phase | phase | phase <;> simp [Engine.afterEnd, u, State.yielding, State.heardFrom, phase]
    have tenure {p : Prop} [Decidable p] {t v : State} : (if u.engine.inTenure = true ∧ p then t else v) = v :=
      if_neg fun both => Bool.false_ne_true (out.symm.trans both.1)
    have again {t v : State} : (if u.engine.afterEnd = true then t else v) = v := if_neg (by simp [isOpen])
    have discards {c : Instr} {b : Body} {take : State → State} (heard : exec c s = .next (s.receive h (some b)))
        (kind : ∀ t : State, t.takeFrame ⟨h, b⟩ = t.hear h fun u => u.within h take) (same : take u = u) :
        exec c s = .next (s.hearing h) := heard.trans (next_congr (State.receive_ignored delivers hears kind same))
    intro c mem wf
    simp only [List.mem_cons, List.not_mem_nil, or_false] at mem
    rcases mem with rfl | rfl | rfl | rfl | rfl
    · simp only [Instr.wf, Bool.and_eq_true, Option.isSome_iff_exists] at wf
      obtain ⟨⟨-, seq, readSeq⟩, payload, readPayload⟩ := wf
      refine discards (b := .data seq payload) (take := fun v => v.takeDataFrame seq payload) ?_ (fun _ => rfl) tenure
      show (.next _ : Result) = _
      rw [readSeq, readPayload]
      rfl
    · simp only [Instr.wf, Bool.and_eq_true, Option.isSome_iff_exists] at wf
      obtain ⟨-, seq, readSeq⟩ := wf
      refine discards (b := .ack seq) (take := fun v => v.takeAckFrame seq) ?_ (fun _ => rfl) tenure
      show (.next _ : Result) = _
      rw [readSeq]
      rfl
    · simp only [Instr.wf, Bool.and_eq_true, Option.isSome_iff_exists] at wf
      obtain ⟨-, seq, readSeq⟩ := wf
      refine discards (b := .nak seq) (take := fun v => v.takeNakFrame seq) ?_ (fun _ => rfl) tenure
      show (.next _ : Result) = _
      rw [readSeq]
      rfl
    · simp only [Instr.wf, Bool.and_eq_true, Option.isSome_iff_exists] at wf
      obtain ⟨-, total, readTotal⟩ := wf
      refine discards (b := .finish total) (take := fun v => v.takeFinishFrame total) ?_ (fun _ => rfl) (tenure.trans again)
      show (.next _ : Result) = _
      rw [readTotal]
      rfl
    · simp only [Instr.wf, Bool.and_eq_true, Option.isSome_iff_exists] at wf
      obtain ⟨⟨-, reason, readReason⟩, offset, readOffset⟩ := wf
      refine discards (b := .disconnect reason offset) (take := fun v => v.takeDisconnectFrame reason offset) ?_ (fun _ => rfl)
        ((if_neg fun both => Bool.false_ne_true (calling.symm.trans both.1)).trans (tenure.trans again))
      show (.next _ : Result) = _
      rw [readReason, readOffset]
      rfl
  · have faulted : s.engine.faulted = true := (Engine.faulted_iff _).mpr ⟨d, cause⟩
    have same : s.releaseSeen = s := by
      refine ite_eq_right_iff.mpr fun _ => ?_
      rcases phase with phase | phase | phase <;> rw [phase] <;> exact if_pos faulted
    refine next_congr ((congrArg State.drainTest same).trans (State.drainTest_of_open ?_))
    rcases phase with phase | phase | phase <;> exact phase ▸ Phase.noConfusion
  · have faulted : s.engine.faulted = true := (Engine.faulted_iff _).mpr ⟨d, cause⟩
    by_cases running : s.engine.silenceTimer.isSome = true
    · exact next_congr ((if_pos running).trans (if_pos faulted))
    · have stopped : s.engine.silenceTimer = none := by simpa using running
      refine next_congr ((if_neg running).trans ?_)
      rw [← stopped]

end Sys2Proof.Machine
end

section
/-! A call that is not answered (O50). -/

namespace Sys2Proof.Machine

/-! ### The owner of the call (R13, R38, R39) -/

/-- The Exchange Table after slot `i`'s CONNECT was not answered. -/
def Scheduler.unanswered (c : Scheduler) (i : SlotId) (leaving : Prop) [Decidable leaving] : Scheduler :=
  let x := c.slot i
  let y := { x with noAnswers := x.noAnswers + 1 }
  if x.cancelRequested then c.ended i .cancelled
  else if 3 ≤ x.noAnswers + 1 then (c.put i y).ended i .noAnswer
  else if leaving then (c.put i y).ended i .left
  else c.queued i y

theorem State.callUnanswered_eq {s : State} {i : SlotId} (selected : (s.slot i).state = .selected) :
    s.callUnanswered i = { s with sched := s.sched.unanswered i (s.station.state = .leaving) } := by
  have live : (s.slot i).state.live = true := by rw [selected]; rfl
  let counted : Slot := { s.slot i with noAnswers := (s.slot i).noAnswers + 1 }
  have step : s.callUnanswered i = if (s.slot i).cancelRequested then s.finishSlot i .cancelled
      else if 3 ≤ (s.slot i).noAnswers + 1 then (s.setSlot i counted).finishSlot i .noAnswer
      else if s.station.state = .leaving then (s.setSlot i counted).finishSlot i .left
      else (s.setSlot i counted).queueSlot i := if_neg (not_not_intro selected)
  have waits : counted.state = .loading ∨ counted.state = .armed ∨ counted.state = .selected := .inr (.inr selected)
  rw [step, State.finishSlot_of_live (o := .cancelled) live ExchangeOutcome.noConfusion,
    State.finishSlot_setSlot (o := .noAnswer) (x := counted) live ExchangeOutcome.noConfusion,
    State.finishSlot_setSlot (o := .left) (x := counted) live ExchangeOutcome.noConfusion, State.queueSlot_setSlot waits]
  have joins {p : Prop} [Decidable p] {c d : Scheduler} :
      (if p then { s with sched := c } else { s with sched := d } : State) = { s with sched := if p then c else d } := by
    split <;> rfl
  rw [joins, joins, joins]
  rfl

/-- Its slot has ended or waits again. -/
theorem Scheduler.slot_unanswered (c : Scheduler) (i : SlotId) (leaving : Prop) [Decidable leaving] :
    ((c.unanswered i leaving).slot i).state ≠ .free := by
  have ended (d : Scheduler) (o : ExchangeOutcome) : ((d.ended i o).slot i).state ≠ .free := by
    rw [Scheduler.slot_ended, if_pos rfl]
    exact SlotState.noConfusion
  unfold Scheduler.unanswered
  dsimp only
  split_ifs
  · exact ended _ _
  · exact ended _ _
  · exact ended _ _
  · rw [Scheduler.slot_queued, if_pos rfl]
    exact SlotState.noConfusion

theorem filter_edit (es : List Entry) (k : Key) {f : Entry → Entry} (key : ∀ e : Entry, (f e).key = e.key) :
    (es.map fun e => if e.key = k then f e else e).filter (fun e => decide (e.key ≠ k)) =
      es.filter fun e => decide (e.key ≠ k) := by
  induction es with
  | nil => rfl
  | cons e es ih =>
    by_cases own : e.key = k
    · simp only [List.map_cons, own, if_true, List.filter_cons, key, ne_eq, not_true, decide_false, Bool.false_eq_true, if_false]
      simpa using ih
    · simp only [List.map_cons, own, if_false, List.filter_cons, ne_eq, not_false_eq_true, decide_true, if_true]
      simpa using ih

/-- The third no-answer of an entry's call drops it. -/
theorem State.entryUnanswered_third {s : State} {k : Key} {e : Entry} (found : s.entry? k = some e) (stamp : e.stamp = none)
    (calls : e.state = .resuming ∨ e.state = .withdrawing) (third : 3 ≤ e.noAnswers + 1) (entered : s.arb.entered = none)
    (idle : s.engine.phase = .idle) :
    s.entryUnanswered k = { s.afterEntry k e.window with host := (s.afterEntry k e.window).host.raised .serviceDropped } := by
  let u : State := { s with service := s.service.edit k fun x => { x with noAnswers := x.noAnswers + 1 } }
  have dropped : s.entryUnanswered k = u.dropEntry k := by
    rw [State.entryUnanswered, found]
    refine (if_neg fun not => calls.elim not.1 not.2).trans (if_pos third)
  have found' : u.entry? k = some { e with noAnswers := e.noAnswers + 1 } :=
    (Service.entry?_edit (v := s.service) (f := fun x => { x with noAnswers := x.noAnswers + 1 }) fun _ => rfl).trans
      (congrArg (Option.map fun x : Entry => { x with noAnswers := x.noAnswers + 1 }) found)
  have rest : u.afterEntry k e.window = s.afterEntry k e.window := by
    unfold State.afterEntry
    rw [show u.service.entries.filter (fun x => decide (x.key ≠ k)) = s.service.entries.filter fun x => decide (x.key ≠ k) from
      filter_edit _ _ fun _ => rfl]
    rfl
  rw [dropped, State.dropEntry_unstamped found' stamp entered idle, rest]

theorem State.queueEntry_unstamped {s : State} {k : Key} {e : Entry} {f : Entry → Entry} (found : s.entry? k = some e)
    (stamp : e.stamp = none) (absent : k ∉ s.service.queue) :
    s.queueEntry k f = { s with service := { s.service with
      queue := s.service.queue ++ [k]
      entries := s.service.entries.map fun x => if x.key = k then { f x with stamp := none, parkTimer := none } else x } } := by
  rw [State.queueEntry_eq found, Service.requeue, stamp, List.erase_of_not_mem absent]
  rfl

/-- An entry whose call was not answered returns to the resume queue. -/
theorem State.entryUnanswered_again {s : State} {k : Key} {e : Entry} (found : s.entry? k = some e) (stamp : e.stamp = none)
    (calls : e.state = .withdrawing ∨ (e.state = .resuming ∧ (s.window e.window).hold = .ready))
    (few : e.noAnswers + 1 < 3) (absent : k ∉ s.service.queue) :
    s.entryUnanswered k = { s with service := { s.service with
      queue := s.service.queue ++ [k]
      entries := s.service.entries.map fun f =>
        if f.key = k then
          { f with state := if e.state = .withdrawing then .withdrawDue else .ready
                   noAnswers := f.noAnswers + 1, stamp := none, parkTimer := none }
        else f } } := by
  let u : State := { s with service := s.service.edit k fun x => { x with noAnswers := x.noAnswers + 1 } }
  have found' : u.entry? k = some { e with noAnswers := e.noAnswers + 1 } :=
    (Service.entry?_edit (v := s.service) (f := fun x => { x with noAnswers := x.noAnswers + 1 }) fun _ => rfl).trans
      (congrArg (Option.map fun x : Entry => { x with noAnswers := x.noAnswers + 1 }) found)
  have calling : ¬ (e.state ≠ .resuming ∧ e.state ≠ .withdrawing) := fun not =>
    calls.elim not.2 fun both => not.1 both.1
  have counted : s.entryUnanswered k = if e.state = .withdrawing then u.queueEntry k fun x => { x with state := .withdrawDue }
      else u.readyEntry k := by
    rw [State.entryUnanswered, found]
    refine (if_neg calling).trans ((if_neg (not_le.mpr few)).trans ?_)
    rcases calls with withdrawing | ⟨resuming, ready⟩
    · rw [if_pos withdrawing, if_pos withdrawing]
      rfl
    · have other : e.state ≠ .withdrawing := resuming ▸ EntryState.noConfusion
      rw [if_neg other, if_neg other]
      exact if_pos ready
  have mapped (y : EntryState) : (u.service.entries.map fun x =>
      if x.key = k then { x with state := y, stamp := none, parkTimer := none } else x) = s.service.entries.map fun f =>
        if f.key = k then { f with state := y, noAnswers := f.noAnswers + 1, stamp := none, parkTimer := none } else f := by
    refine List.map_map.trans (List.map_congr_left fun f _ => ?_)
    by_cases own : f.key = k
    · simp [own]
    · simp [own]
  rw [counted]
  split
  case isTrue withdrawing =>
    rw [State.queueEntry_unstamped found' stamp absent]
    exact congrArg (fun es => ({ s with service := { s.service with queue := s.service.queue ++ [k], entries := es } } : State))
      (mapped .withdrawDue)
  case isFalse =>
    rw [State.readyEntry, State.queueEntry_unstamped found' stamp absent]
    exact congrArg (fun es => ({ s with service := { s.service with queue := s.service.queue ++ [k], entries := es } } : State))
      (mapped .ready)

/-! ### The Peer Table (R163) -/

theorem State.peerNoAnswer_few {s : State} {p : StationId} (few : (s.peer p).state = .silent ∨ (s.peer p).count + 1 < 3) :
    s.peerNoAnswer p = { s with station := { s.station with
      peers := s.station.peers.set p
        (if (s.peer p).state = .silent then ⟨.silent, 3⟩ else { s.peer p with count := (s.peer p).count + 1 }) } } := by
  unfold State.peerNoAnswer
  by_cases silent : (s.peer p).state = .silent
  · rw [if_pos silent, if_pos silent]
    rfl
  · rw [if_neg silent, if_neg silent]
    exact (if_neg (not_le.mpr (few.resolve_left silent))).trans rfl

/-- ANSWER_TIMEOUT of a call. -/
theorem exec_answerTimeout {s : State} (calling : s.engine.phase = .calling) (running : s.engine.answerTimer.isSome = true) :
    exec .answerTimeout s = .next ((if s.engine.purpose = .connect then s.offConnection.callUnanswered s.engine.tag.slot
      else s.offConnection.entryUnanswered s.engine.key).peerNoAnswer s.engine.partner).drainTest := by
  refine next_congr ((if_pos (Engine.awaitsAnswer_of calling running)).trans (congrArg State.drainTest ?_))
  unfold State.answerExpired
  rw [State.leaveConnection_eq]

/-- Settles O50: the owner of the call is settled, then the Peer Table counts. -/
theorem answerTimeout : Obligations.AnswerTimeout := by
  intro s calling running holder entered i x k p peer noted counted left y settled few
  refine ⟨fun connect selected => ?_, fun call e found stamp absent => ⟨fun state third => ?_, fun state again => ?_⟩⟩
  · have owner : s.offConnection.callUnanswered i = { s.offConnection with sched := settled } :=
      State.callUnanswered_eq (s := s.offConnection) selected
    have ends : exec .answerTimeout s = .next (({ s.offConnection with sched := settled } : State).peerNoAnswer p).drainTest := by
      rw [exec_answerTimeout calling running, if_pos connect, owner]
    rw [ends, State.peerNoAnswer_few (by exact few)]
    exact next_congr (State.drainTest_of_slot (i := i) (by exact Scheduler.slot_unanswered s.sched i (s.station.state = .leaving)))
  · have owner := State.entryUnanswered_third (s := s.offConnection) found stamp state third entered rfl
    rw [exec_answerTimeout calling running, if_neg call, owner, State.peerNoAnswer_few (by exact few)]
    rfl
  · have owner := State.entryUnanswered_again (s := s.offConnection) found stamp state again absent
    rw [exec_answerTimeout calling running, if_neg call, owner, State.peerNoAnswer_few (by exact few)]
    refine next_congr (State.drainTest_of_entries fun empty => ?_)
    exact List.ne_nil_of_mem (State.entry?_key found).1 (List.map_eq_nil_iff.mp empty)

end Sys2Proof.Machine
end

section
/-! A peer that goes SILENT (O51). -/

namespace Sys2Proof.Machine

/-! ### Entries that are dropped (R46) -/

/-- A dropped entry leaves the keys of all others. -/
theorem State.keys_dropEntry (s : State) (k : Key) :
    (s.dropEntry k).service.entries.map (·.key) = (s.service.entries.map (·.key)).filter fun j => decide (j ≠ k) := by
  cases found : s.entry? k with
  | none =>
    rw [State.dropEntry_of_none s k found]
    refine (List.filter_eq_self.mpr fun j mem => ?_).symm
    obtain ⟨e, he, rfl⟩ := List.mem_map.mp mem
    simpa using Service.entry?_eq_none found e he
  | some e =>
    have kept (u : State) (w : WindowId) : (u.windowCheck w).service.entries = u.service.entries := by
      unfold State.windowCheck
      split <;> rfl
    have entries : (s.dropEntry k).service.entries = (s.service.remove k e.stamp).entries := by
      rw [State.dropEntry_found found, State.removeEntry_found found, (State.raise_frame _ _).2.2.2.2.2.1, kept]
      split
      · simp
      · rfl
    rw [entries, Service.remove, closeStamp_eq_map, List.map_map]
    have keys : (fun x : Entry => x.key) ∘ Entry.lower e.stamp = fun x => x.key := funext fun x => (Entry.lower_frame ..).1
    rw [keys]
    exact (List.filter_map (f := fun x : Entry => x.key) (p := fun j => decide (j ≠ k))).symm

theorem State.keys_foldl_dropEntry (l : List Key) : ∀ s : State,
    (l.foldl State.dropEntry s).service.entries.map (·.key) = (s.service.entries.map (·.key)).filter fun j => decide (j ∉ l) := by
  induction l with
  | nil => intro s; simp
  | cons k l ih =>
    intro s
    rw [List.foldl_cons, ih, State.keys_dropEntry, List.filter_filter]
    refine List.filter_congr fun j _ => ?_
    simp [Bool.and_comm]

/-- No entry of a SILENT peer is left. -/
theorem State.peerSilentEntries_fresh (s : State) (p : StationId) :
    ∀ e ∈ (s.peerSilentEntries p).service.entries, e.key.initiator ≠ p := by
  intro e mem own
  have key : e.key ∈ (s.peerSilentEntries p).service.entries.map (·.key) := List.mem_map_of_mem mem
  rw [State.peerSilentEntries, State.keys_foldl_dropEntry] at key
  obtain ⟨old, not⟩ := List.mem_filter.mp key
  exact (of_decide_eq_true not) (List.mem_filter.mpr ⟨old, decide_eq_true own⟩)

/-- SERVICE_DROPPED is raised for an entry of the SILENT peer. -/
theorem State.peerSilentEntries_drops {s : State} {p : StationId} {e : Entry} (mem : e ∈ s.service.entries)
    (own : e.key.initiator = p) : (s.peerSilentEntries p).flag .serviceDropped = true := by
  have key : e.key ∈ (s.service.entries.map (·.key)).filter fun k => k.initiator = p :=
    List.mem_filter.mpr ⟨List.mem_map_of_mem mem, decide_eq_true own⟩
  unfold State.peerSilentEntries
  cases keys : (s.service.entries.map (·.key)).filter fun k => k.initiator = p with
  | nil => rw [keys] at key; exact nomatch key
  | cons k l =>
    have first : k ∈ s.service.entries.map (·.key) :=
      (List.mem_filter.mp (keys ▸ List.mem_cons_self : k ∈ (s.service.entries.map (·.key)).filter fun k => k.initiator = p)).1
    obtain ⟨f, hf, rfl⟩ := List.mem_map.mp first
    obtain ⟨x, found⟩ : ∃ x, s.entry? f.key = some x := by
      cases found : s.entry? f.key with
      | none => exact absurd rfl (Service.entry?_eq_none found f hf)
      | some x => exact ⟨x, rfl⟩
    have dropped : (s.dropEntry f.key).flag .serviceDropped = true := by
      rw [State.dropEntry_found found]
      exact State.flag_raise_self ..
    exact (State.EventsKept.foldl (fun k kept => State.EventsKept.dropEntry kept k) l
      (State.EventsKept.refl (s.dropEntry f.key))).2 .serviceDropped dropped

/-- An IDLE Engine takes no notice of an entry that is dropped. -/
theorem State.dropEntry_idle {s : State} (idle : s.engine = .idle) (k : Key) : (s.dropEntry k).engine = .idle := by
  have gone (u : State) (same : u.engine = .idle) : (u.entryWantGone k).engine = .idle := by
    unfold State.entryWantGone
    dsimp only
    rw [if_neg]
    · simpa using same
    · simp [same, Engine.idle]
  unfold State.dropEntry
  split
  · unfold State.removeEntry
    split
    · simpa using idle
    · simp only [State.raise_frame, State.windowCheck_frame]
      split
      · exact gone _ idle
      · exact idle
  · exact idle

theorem State.peerSilentEntries_idle {s : State} (idle : s.engine = .idle) (p : StationId) :
    (s.peerSilentEntries p).engine = .idle := by
  have fold (l : List Key) : ∀ u : State, u.engine = .idle → (l.foldl State.dropEntry u).engine = .idle := by
    induction l with
    | nil => exact fun _ same => same
    | cons k l ih => exact fun u same => ih _ (State.dropEntry_idle same k)
  exact fold _ s idle

/-! ### Slots that end PEER_SILENT (R24) -/

/-- Without a SELECTED slot the QUEUED ones to the peer end, in ascending order. -/
theorem State.peerSilentSlots_unselected {s : State} (none : ∀ j, (s.slot j).state ≠ .selected) (p : StationId) :
    s.peerSilentSlots p = { s with
      sched := s.sched.endAll .peerSilent (slotIds.filter fun j => (s.slot j).state = .queued && (s.slot j).peer = p) } := by
  have nodup : slotIds.Nodup := by decide
  have live : ∀ x : Slot, (x.state = .queued && x.peer = p : Bool) = true → x.state.live = true := by
    intro x picked
    simp only [Bool.and_eq_true, decide_eq_true_eq] at picked
    rw [picked.1]
    rfl
  have ended := State.finishWhere_eq s (p := fun x => x.state = .queued && x.peer = p) (o := .peerSilent)
    ExchangeOutcome.noConfusion live
  have unselected : (s.finishWhere (fun x => x.state = .queued && x.peer = p) .peerSilent).selected? = Option.none := by
    rw [ended]
    refine List.find?_eq_none.mpr fun j _ => ?_
    have slot := Scheduler.slot_endAll (c := s.sched) (o := .peerSilent)
      (nodup.filter fun j => (s.slot j).state = .queued && (s.slot j).peer = p) j
    have state : ((s.sched.endAll .peerSilent
        (slotIds.filter fun j => (s.slot j).state = .queued && (s.slot j).peer = p)).slot j).state ≠ .selected := by
      rw [slot]
      split
      · exact SlotState.noConfusion
      · exact none j
    exact fun selected => state (of_decide_eq_true selected)
  unfold State.peerSilentSlots
  dsimp only
  rw [unselected, ended]

/-! ### The owner of the call (R13, R19) -/

theorem Scheduler.slot_unanswered_of_ne {c : Scheduler} {i j : SlotId} (other : j ≠ i) (leaving : Prop) [Decidable leaving] :
    (c.unanswered i leaving).slot j = c.slot j := by
  unfold Scheduler.unanswered
  dsimp only
  split_ifs
  · rw [Scheduler.slot_ended, if_neg other]
  · rw [Scheduler.slot_ended, if_neg other, Scheduler.slot_put, if_neg other]
  · rw [Scheduler.slot_ended, if_neg other, Scheduler.slot_put, if_neg other]
  · rw [Scheduler.slot_queued, if_neg other]

/-- The outcome with which a call that was not answered ends its slot (R13, R19). -/
def Slot.unansweredOutcome (x : Slot) : Option ExchangeOutcome :=
  if x.cancelRequested then some .cancelled else if 3 ≤ x.noAnswers + 1 then some .noAnswer else none

theorem Scheduler.unanswered_ends {c : Scheduler} {i : SlotId} {o : ExchangeOutcome}
    (owner : (c.slot i).unansweredOutcome = some o) (leaving : Prop) [Decidable leaving] :
    ((c.unanswered i leaving).slot i).state = .finished ∧ ((c.unanswered i leaving).slot i).outcome = some o ∧
      (c.unanswered i leaving).finished = c.finished ++ [i] := by
  have ended (d : Scheduler) (q : ExchangeOutcome) :
      ((d.ended i q).slot i).state = .finished ∧ ((d.ended i q).slot i).outcome = some q := by
    rw [Scheduler.slot_ended, if_pos rfl]
    exact ⟨rfl, rfl⟩
  unfold Slot.unansweredOutcome at owner
  unfold Scheduler.unanswered
  dsimp only
  by_cases cancel : (c.slot i).cancelRequested = true
  · rw [if_pos cancel] at owner ⊢
    obtain rfl := Option.some.inj owner
    exact ⟨(ended _ _).1, (ended _ _).2, rfl⟩
  · rw [if_neg cancel] at owner ⊢
    by_cases third : 3 ≤ (c.slot i).noAnswers + 1
    · rw [if_pos third] at owner ⊢
      obtain rfl := Option.some.inj owner
      exact ⟨(ended _ _).1, (ended _ _).2, rfl⟩
    · rw [if_neg third] at owner
      exact nomatch owner

theorem Scheduler.unanswered_waits {c : Scheduler} {i : SlotId} (owner : (c.slot i).unansweredOutcome = none) :
    c.unanswered i False = c.queued i { c.slot i with noAnswers := (c.slot i).noAnswers + 1 } := by
  unfold Slot.unansweredOutcome at owner
  unfold Scheduler.unanswered
  dsimp only
  by_cases cancel : (c.slot i).cancelRequested = true
  · rw [if_pos cancel] at owner
    exact nomatch owner
  · rw [if_neg cancel] at owner ⊢
    by_cases third : 3 ≤ (c.slot i).noAnswers + 1
    · rw [if_pos third] at owner
      exact nomatch owner
    · rw [if_neg third, if_neg not_false]

/-- Settles O51: the owner of the call is settled, then what waits for the SILENT peer. -/
theorem peerGoesSilent : Obligations.PeerGoesSilent := by
  intro s calling running connect lists one i p x dead owner selected peer notSilent count online
  let c : Scheduler := s.sched.unanswered i False
  let u : State := { s.offConnection with sched := c }
  have slotOf (j : SlotId) : u.slot j = c.slot j := rfl
  have others (j : SlotId) (other : j ≠ i) : c.slot j = s.slot j := Scheduler.slot_unanswered_of_ne other False
  have called : s.offConnection.callUnanswered i = u := by
    refine (State.callUnanswered_eq (s := s.offConnection) selected).trans ?_
    have not : ¬ s.offConnection.station.state = .leaving := (show s.offConnection.station.state = .online from online) ▸ StationState.noConfusion
    simp only [not]
    rfl
  have unselected : ∀ j, (u.slot j).state ≠ .selected := by
    intro j
    rw [slotOf]
    by_cases same : j = i
    · subst same
      cases settled : x.unansweredOutcome with
      | some o =>
        rw [(Scheduler.unanswered_ends (c := s.sched) settled False).1]
        exact SlotState.noConfusion
      | none =>
        rw [show c = _ from Scheduler.unanswered_waits (c := s.sched) settled, Scheduler.slot_queued, if_pos rfl]
        exact SlotState.noConfusion
    · rw [others j same]
      exact fun also => same (one j i also selected)
  let gone : List SlotId := slotIds.filter fun j => (u.slot j).state = .queued && (u.slot j).peer = p
  let marked : State := (u.setPeer p ⟨.silent, 3⟩).raise .peerSilent
  have slots : marked.peerSilentSlots p = { marked with sched := c.endAll .peerSilent gone } :=
    State.peerSilentSlots_unselected (s := marked) unselected p
  let v : State := { marked with sched := c.endAll .peerSilent gone }
  have silenced : u.peerNoAnswer p = v.peerSilentEntries p := by
    have quiet : ¬ (u.peer p).state = .silent := notSilent
    have third : (u.peer p).count + 1 ≥ 3 := (show (u.peer p).count = 2 from count) ▸ le_refl _
    have silence : u.peerNoAnswer p = u.silence p := (if_neg quiet).trans (if_pos third)
    rw [silence]
    exact congrArg (State.peerSilentEntries · p) slots
  let t : State := v.peerSilentEntries p
  have frame := State.peerSilentEntries_frame v p
  have runs : exec .answerTimeout s = .next t := by
    rw [exec_answerTimeout calling running, if_pos connect, called, silenced]
    refine next_congr (State.drainTest_of_not_leaving _ ?_)
    rw [frame.1]
    exact (show v.station.state = .online from online) ▸ StationState.noConfusion
  have nodup : slotIds.Nodup := by decide
  have slot (j : SlotId) : t.slot j = if j ∈ gone then (c.slot j).ended .peerSilent else c.slot j :=
    (State.slot_of_sched frame.2.1 j).trans (Scheduler.slot_endAll (nodup.filter _) j)
  have finished : t.sched.finished = c.finished ++ gone :=
    (congrArg (·.finished) frame.2.1).trans Scheduler.finished_endAll
  have mem_gone (j : SlotId) : j ∈ gone ↔ (c.slot j).state = .queued ∧ (c.slot j).peer = p := by
    simp only [gone, mem_filter_slotIds, Bool.and_eq_true, decide_eq_true_eq]
    rfl
  have gone_other (j : SlotId) (other : j ≠ i) : j ∈ gone ↔ dead j = true := by
    rw [mem_gone, others j other]
    simp [dead]
  have alive : dead i = false := by simp [dead, show (s.slot i).state = .selected from selected]
  have flags := State.EventsKept.peerSilentEntries (State.EventsKept.refl v) p
  have slot_i : (t.slot i).state = .finished ∧ (t.slot i).outcome = some (owner.getD .peerSilent) := by
    rw [slot i]
    cases settled : x.unansweredOutcome with
    | some o =>
      have ends := Scheduler.unanswered_ends (c := s.sched) settled False
      have stays : i ∉ gone := fun mem => nomatch ((mem_gone i).mp mem).1.symm.trans ends.1
      rw [if_neg stays, show owner = some o from settled]
      exact ⟨ends.1, ends.2.1⟩
    | none =>
      have queue : c = _ := Scheduler.unanswered_waits (c := s.sched) settled
      have joins : i ∈ gone := by
        rw [mem_gone, queue, Scheduler.slot_queued, if_pos rfl]
        exact ⟨rfl, peer⟩
      rw [if_pos joins, show owner = none from settled]
      exact ⟨rfl, rfl⟩
  refine ⟨t, runs, State.peerSilentEntries_idle rfl p, ?_, flags.2 .peerSilent (State.flag_raise_self ..), fun j is => ?_,
    fun j other not => ?_, ?_, ?_, fun ends => ?_, fun waits => ?_, v.peerSilentEntries_fresh p,
    fun e mem own => State.peerSilentEntries_drops mem own⟩
  · have same : t.peer p = (u.setPeer p ⟨.silent, 3⟩).peer p := congrArg (·.peers[p]) frame.1
    rw [same, State.peer_setPeer, if_pos rfl]
  · have other : j ≠ i := fun same => Bool.false_ne_true (alive.symm.trans (same ▸ is))
    rw [slot j, if_pos ((gone_other j other).mpr is), others j other]
  · rw [slot j, if_neg (by rw [gone_other j other, not]; exact Bool.false_ne_true), others j other]
  · exact slot_i.1
  · exact slot_i.2
  · obtain ⟨o, settled⟩ := Option.isSome_iff_exists.mp ends
    have list : gone = slotIds.filter dead := List.filter_congr fun j _ => by
      by_cases same : j = i
      · have state : (c.slot j).state = .finished := same ▸ (Scheduler.unanswered_ends (c := s.sched) settled False).1
        rw [same, alive, ← same]
        simp [slotOf, state]
      · rw [Bool.eq_iff_iff, ← gone_other j same, mem_gone]
        simp [slotOf]
    rw [finished, list, (Scheduler.unanswered_ends (c := s.sched) settled False).2.2, List.append_assoc]
    rfl
  · have queue : c = _ := Scheduler.unanswered_waits (c := s.sched) waits
    have list : gone = slotIds.filter fun j => dead j || j = i := List.filter_congr fun j _ => by
      by_cases same : j = i
      · have state : (c.slot j).state = .queued ∧ (c.slot j).peer = p := by
          rw [queue, Scheduler.slot_queued, if_pos same]
          exact ⟨rfl, peer⟩
        simpa [slotOf, same] using same ▸ state
      · rw [Bool.eq_iff_iff, decide_eq_false same, Bool.or_false, ← gone_other j same, mem_gone]
        simp [slotOf]
    rw [finished, list, queue]
    rfl

end Sys2Proof.Machine
end

section
/-! Entries that join the resume queue one after the other (R37, R44, R45, R48). -/

namespace Sys2Proof.Machine

/-! ### Stamps in order (R45) -/

/-- No two entries carry one stamp. -/
def Service.Apart (v : Service) : Prop :=
  ∀ x ∈ v.entries, ∀ y ∈ v.entries, ∀ n, x.stamp = some n → y.stamp = some n → x.key = y.key

/-- The number of the keys of a list whose entries have stamps below `n`. -/
def Service.stampsBelow (v : Service) (l : List Key) (n : Nat) : Nat :=
  l.countP fun k => ((v.entry? k).bind (·.stamp)).any fun m => decide (m < n)

/-- What becomes of an entry when the entries of these keys have joined the queue, each as `f` of itself. -/
def Service.joined (v : Service) (l : List Key) (f : Entry → Entry) (e : Entry) : Entry :=
  if e.key ∈ l then { f e with stamp := none, parkTimer := none }
  else { e with stamp := e.stamp.map fun n => n - v.stampsBelow l n }

theorem Service.joined_of_mem {v : Service} {l : List Key} {f : Entry → Entry} {e : Entry} (mem : e.key ∈ l) :
    v.joined l f e = { f e with stamp := none, parkTimer := none } := if_pos mem

theorem Service.joined_of_not_mem {v : Service} {l : List Key} {f : Entry → Entry} {e : Entry} (mem : e.key ∉ l) :
    v.joined l f e = { e with stamp := e.stamp.map fun n => n - v.stampsBelow l n } := if_neg mem

/-- A change of an entry that does not look at its stamp and keeps its key. -/
def Entry.Blind (f : Entry → Entry) : Prop :=
  ∀ (e : Entry) (o : Option Nat), (f e).key = e.key ∧
    { f { e with stamp := o } with stamp := none, parkTimer := none } = { f e with stamp := none, parkTimer := none }

theorem Entry.Blind.lower {f : Entry → Entry} (blind : Entry.Blind f) (o : Option Nat) (e : Entry) :
    { f (e.lower o) with stamp := none, parkTimer := none } = { f e with stamp := none, parkTimer := none } := by
  cases o with
  | none => rfl
  | some k => exact (blind e _).2

theorem Entry.stamp_lower (o : Option Nat) (e : Entry) :
    (e.lower o).stamp = e.stamp.map fun n => if o.any (fun k => decide (n > k)) then n - 1 else n := by
  cases o with
  | none => cases h : e.stamp <;> simp [Entry.lower, h]
  | some k => simp [Entry.lower]

theorem Entry.lower_with (o p : Option Nat) (e : Entry) : { e.lower o with stamp := p } = { e with stamp := p } := by
  cases o <;> rfl

theorem erase_append_filter {q : List Key} (nodup : q.Nodup) {k : Key} {l : List Key} (fresh : k ∉ l) :
    (q.erase k ++ [k]).filter (fun j => decide (j ∉ l)) ++ l = q.filter (fun j => decide (j ∉ k :: l)) ++ k :: l := by
  rw [nodup.erase_eq_filter, List.filter_append, List.filter_filter]
  have one : [k].filter (fun j => decide (j ∉ l)) = [k] := by simp [fresh]
  rw [one, List.append_assoc]
  congr 1
  refine List.filter_congr fun j _ => ?_
  by_cases own : j = k <;> simp [own]

/-- What becomes of an entry when the entry of key `k`, with stamp `o`, joins the queue. -/
def Entry.requeued (k : Key) (o : Option Nat) (f : Entry → Entry) (x : Entry) : Entry :=
  if x.key = k then { f x with stamp := none, parkTimer := none } else x.lower o

theorem Entry.requeued_key {k : Key} {o : Option Nat} {f : Entry → Entry} (blind : Entry.Blind f) (x : Entry) :
    (x.requeued k o f).key = x.key := by
  unfold Entry.requeued
  split
  · exact (blind x none).1
  · exact (Entry.lower_frame o x).1

theorem Entry.requeued_of_ne {k : Key} {o : Option Nat} {f : Entry → Entry} {x : Entry} (other : x.key ≠ k) :
    x.requeued k o f = x.lower o := if_neg other

theorem Service.requeue_eq {k : Key} {o : Option Nat} {f : Entry → Entry} (blind : Entry.Blind f) (v : Service) :
    v.requeue k o f = { v with entries := v.entries.map (Entry.requeued k o f), queue := v.queue.erase k ++ [k] } := by
  have each (x : Entry) : (if (x.lower o).key = k then { f (x.lower o) with stamp := none, parkTimer := none }
      else x.lower o) = x.requeued k o f := by
    rw [(Entry.lower_frame o x).1, blind.lower]
    rfl
  rw [Service.requeue, closeStamp_eq_map, List.map_map]
  exact congrArg (fun es => ({ v with entries := es, queue := v.queue.erase k ++ [k] } : Service))
    (List.map_congr_left fun x _ => each x)

theorem Service.entry?_requeue {v : Service} {j k : Key} {o : Option Nat} {f : Entry → Entry} (blind : Entry.Blind f) :
    (v.requeue k o f).entry? j = (v.entry? j).map (Entry.requeued k o f) := by
  rw [Service.requeue_eq blind]
  exact Service.entry?_map (Entry.requeued_key blind)

/-- A stamp other than the one that is given back stays in order with the others. -/
theorem Entry.stamp_requeued_lt {v : Service} {k : Key} {e x y : Entry} {f : Entry → Entry} (apart : v.Apart)
    (found : v.entry? k = some e) (hx : x ∈ v.entries) (hy : y ∈ v.entries) (xk : x.key ≠ k) (yk : y.key ≠ k) {a b : Nat}
    (xs : x.stamp = some a) (ys : y.stamp = some b) :
    ∃ a' b', (x.requeued k e.stamp f).stamp = some a' ∧ (y.requeued k e.stamp f).stamp = some b' ∧ (a' < b' ↔ a < b) ∧
      (a' = b' ↔ a = b) ∧ b' = b - (if e.stamp.any (fun m => decide (m < b)) then 1 else 0) := by
  obtain ⟨he, own⟩ := Service.entry?_mem found
  rw [Entry.requeued_of_ne xk, Entry.requeued_of_ne yk, Entry.stamp_lower, Entry.stamp_lower, xs, ys]
  refine ⟨_, _, rfl, rfl, ?_⟩
  cases stamp : e.stamp with
  | none => simp
  | some m =>
    have ma : a ≠ m := fun same => xk ((apart x hx e he a xs (same ▸ stamp)).trans own)
    have mb : b ≠ m := fun same => yk ((apart y hy e he b ys (same ▸ stamp)).trans own)
    simp only [Option.any_some, decide_eq_true_eq]
    split_ifs <;> omega

/-- The stamps stay apart. -/
theorem Service.requeue_apart {v : Service} {k : Key} {e : Entry} {f : Entry → Entry} (blind : Entry.Blind f)
    (found : v.entry? k = some e) (apart : v.Apart) : (v.requeue k e.stamp f).Apart := by
  have stamped {z : Entry} {n : Nat} (stamp : (z.requeued k e.stamp f).stamp = some n) :
      z.key ≠ k ∧ ∃ a, z.stamp = some a := by
    by_cases own : z.key = k
    · rw [Entry.requeued, if_pos own] at stamp
      exact nomatch stamp
    · rw [Entry.requeued_of_ne own, Entry.stamp_lower] at stamp
      obtain ⟨a, old, -⟩ := Option.map_eq_some_iff.mp stamp
      exact ⟨own, a, old⟩
  intro x' hx' y' hy' n xs ys
  rw [Service.requeue_eq blind] at hx' hy'
  obtain ⟨x, hx, rfl⟩ := List.mem_map.mp hx'
  obtain ⟨y, hy, rfl⟩ := List.mem_map.mp hy'
  obtain ⟨xk, a, xa⟩ := stamped xs
  obtain ⟨yk, b, yb⟩ := stamped ys
  obtain ⟨a', b', xa', yb', -, same, -⟩ := Entry.stamp_requeued_lt (f := f) apart found hx hy xk yk xa yb
  rw [Entry.requeued_key blind, Entry.requeued_key blind]
  refine apart x hx y hy a xa ?_
  rw [yb, same.mp (Option.some.inj (xa'.symm.trans (xs.trans (ys.symm.trans yb'))))]

/-- One key more: a stamp above its entry's is one lower, and the others count as before. -/
theorem Service.stampsBelow_cons {v : Service} {k : Key} {l : List Key} {e x : Entry} {f : Entry → Entry}
    (blind : Entry.Blind f) (apart : v.Apart) (found : v.entry? k = some e) (fresh : k ∉ l) (hx : x ∈ v.entries) (xk : x.key ≠ k)
    {n : Nat} (xs : x.stamp = some n) :
    (x.requeued k e.stamp f).stamp.map (fun m => m - (v.requeue k e.stamp f).stampsBelow l m) =
      some (n - v.stampsBelow (k :: l) n) := by
  obtain ⟨-, n', -, xs', -, -, lowered⟩ := Entry.stamp_requeued_lt (f := f) apart found hx hx xk xk xs xs
  have same : (v.requeue k e.stamp f).stampsBelow l n' = v.stampsBelow l n := by
    refine List.countP_congr fun j mem => ?_
    have jk : j ≠ k := fun same => fresh (same ▸ mem)
    rw [Service.entry?_requeue blind]
    cases at' : v.entry? j with
    | none => simp
    | some y =>
      obtain ⟨hy, own⟩ := Service.entry?_mem at'
      simp only [Option.map_some, Option.bind_some]
      cases ys : y.stamp with
      | none => simp [Entry.requeued_of_ne (own ▸ jk : y.key ≠ k), Entry.stamp_lower, ys]
      | some b =>
        obtain ⟨b', m', ys', xm', less, -, -⟩ := Entry.stamp_requeued_lt (f := f) apart found hy hx (own ▸ jk) xk ys xs
        obtain rfl : m' = n' := Option.some.inj (xm'.symm.trans xs')
        simp [ys', less]
  have count : v.stampsBelow (k :: l) n = v.stampsBelow l n + if e.stamp.any (fun m => decide (m < n)) then 1 else 0 := by
    rw [Service.stampsBelow, List.countP_cons, found]
    rfl
  rw [xs', Option.map_some, same, count, lowered]
  exact congrArg some (by omega)

/-- Entries join the queue one after the other: the stamps of the others fall by the number of the lower ones that left. -/
theorem State.foldl_queueEntry {f : Entry → Entry} (blind : Entry.Blind f) (l : List Key) :
    ∀ s : State, l.Nodup → s.service.queue.Nodup → s.service.Apart → (∀ k ∈ l, ∃ e, s.entry? k = some e) →
      l.foldl (fun s k => s.queueEntry k f) s = { s with service := { s.service with
        entries := s.service.entries.map (s.service.joined l f)
        queue := s.service.queue.filter (fun j => decide (j ∉ l)) ++ l } } := by
  induction l with
  | nil =>
    intro s _ _ _ _
    have same : s.service.entries.map (s.service.joined [] f) = s.service.entries := by
      refine (List.map_congr_left fun e _ => ?_).trans (List.map_id _)
      simp [Service.joined, Service.stampsBelow]
    simp [same]
  | cons k l ih =>
    intro s distinct nodup apart present
    obtain ⟨fresh, distinct⟩ := List.nodup_cons.mp distinct
    obtain ⟨e, found⟩ := present k List.mem_cons_self
    let v : Service := s.service.requeue k e.stamp f
    have queue : v.queue = s.service.queue.erase k ++ [k] := rfl
    have nodup' : v.queue.Nodup := by
      rw [queue]
      exact (nodup.erase k).append (List.nodup_singleton k) (by simp [nodup.mem_erase_iff])
    have present' : ∀ j ∈ l, ∃ y, ({ s with service := v } : State).entry? j = some y := by
      intro j mem
      obtain ⟨y, at'⟩ := present j (List.mem_cons_of_mem k mem)
      exact ⟨_, (Service.entry?_requeue (v := s.service) blind).trans (congrArg (Option.map _) at')⟩
    rw [List.foldl_cons, State.queueEntry_eq found,
      ih { s with service := v } distinct nodup' (Service.requeue_apart blind found apart) present']
    have entries : v.entries.map (v.joined l f) = s.service.entries.map (s.service.joined (k :: l) f) := by
      rw [show v.entries = s.service.entries.map (Entry.requeued k e.stamp f) from
        congrArg Service.entries (Service.requeue_eq blind s.service), List.map_map]
      refine List.map_congr_left fun x hx => ?_
      have key : (x.requeued k e.stamp f).key = x.key := Entry.requeued_key blind x
      rw [Function.comp_apply]
      by_cases own : x.key = k
      · have out : (x.requeued k e.stamp f).key ∉ l := by
          rw [key, own]
          exact fresh
        rw [Service.joined_of_not_mem out, Service.joined_of_mem (own ▸ List.mem_cons_self), Entry.requeued, if_pos own]
        rfl
      · by_cases mem : x.key ∈ l
        · rw [Service.joined_of_mem (key ▸ mem), Service.joined_of_mem (List.mem_cons_of_mem k mem), Entry.requeued_of_ne own]
          exact blind.lower e.stamp x
        · have out : x.key ∉ k :: l := by simp [own, mem]
          have stamps : (x.requeued k e.stamp f).stamp.map (fun m => m - v.stampsBelow l m) =
              x.stamp.map fun n => n - s.service.stampsBelow (k :: l) n := by
            cases xs : x.stamp with
            | none =>
              rw [Entry.requeued_of_ne own, Entry.stamp_lower, xs]
              rfl
            | some n => exact Service.stampsBelow_cons blind apart found fresh hx own xs
          rw [Service.joined_of_not_mem (key ▸ mem), Service.joined_of_not_mem out, stamps, Entry.requeued_of_ne own]
          exact Entry.lower_with e.stamp _ x
    exact congrArg₂ (fun es q => ({ s with service := { s.service with entries := es, queue := q } } : State)) entries
      (erase_append_filter nodup fresh)

end Sys2Proof.Machine
end

section
/-! The PARKED entries in park order (R44, R45). -/

namespace Sys2Proof.Machine

/-! ### Stamps and keys of a table in park order -/

theorem Service.Parks.apart {v : Service} (parks : v.Parks) : v.Apart := by
  have nodup : (v.entries.filterMap (·.stamp)).Nodup := parks.2.nodup_iff.mpr List.nodup_range'
  have pairs : v.entries.Pairwise fun a b => ∀ m, a.stamp = some m → ∀ k, b.stamp = some k → m ≠ k :=
    List.pairwise_filterMap.mp nodup
  have symm : Std.Symm fun a b : Entry => ∀ m, a.stamp = some m → ∀ k, b.stamp = some k → m ≠ k :=
    ⟨fun a b h m bm k am same => h k am m bm same.symm⟩
  intro x hx y hy n xs ys
  by_contra other
  exact pairs.forall hx hy (fun same => other (congrArg Entry.key same)) n xs n ys rfl

/-- A PARKED entry of a table in order has a stamp from 1 to 8. -/
theorem Service.Parks.stamp_of_parked {v : Service} (parks : v.Parks) (table : v.Table) {e : Entry} (mem : e ∈ v.entries)
    (parked : e.state = .parked) : ∃ n ∈ [1, 2, 3, 4, 5, 6, 7, 8], e.stamp = some n := by
  obtain ⟨n, stamp⟩ := Option.isSome_iff_exists.mp ((parks.1 e mem).mp parked)
  have inRange : n ∈ List.range' 1 (parkedCount v.entries) :=
    parks.2.mem_iff.mp (List.mem_filterMap.mpr ⟨e, mem, stamp⟩)
  have few : parkedCount v.entries ≤ 8 := (List.length_filter_le _ _).trans table.1
  rw [List.mem_range'_1] at inRange
  refine ⟨n, ?_, stamp⟩
  have range : n ∈ List.range' 1 8 := List.mem_range'_1.mpr (by omega)
  exact range

theorem Service.Parks.stamp_of_unparked {v : Service} (parks : v.Parks) {e : Entry} (mem : e ∈ v.entries)
    (other : e.state ≠ .parked) : e.stamp = none := by
  by_contra some
  exact other ((parks.1 e mem).mpr (Option.isSome_iff_ne_none.mpr some))

/-- The keys in park order are those of the picked PARKED entries. -/
theorem State.mem_parkedKeys_iff {s : State} {p : Entry → Bool} (table : s.service.Table) (parks : s.service.Parks) {e : Entry}
    (mem : e ∈ s.service.entries) : e.key ∈ s.parkedKeys p ↔ e.state = .parked ∧ p e = true := by
  constructor
  · intro key
    obtain ⟨n, -, mapped⟩ := List.mem_filterMap.mp key
    obtain ⟨x, found, same⟩ := Option.map_eq_some_iff.mp mapped
    obtain rfl := table.unique (List.mem_of_find?_eq_some found) mem same
    have picked := List.find?_some found
    simp only [Bool.and_eq_true, decide_eq_true_eq] at picked
    exact ⟨picked.1.1, picked.2⟩
  · rintro ⟨parked, picked⟩
    obtain ⟨n, range, stamp⟩ := parks.stamp_of_parked table mem parked
    refine List.mem_filterMap.mpr ⟨n, range, Option.map_eq_some_iff.mpr ⟨e, ?_, rfl⟩⟩
    refine find?_eq_some_of_unique mem (by simp [parked, stamp, picked]) fun f hf also => ?_
    simp only [Bool.and_eq_true, decide_eq_true_eq] at also
    exact table.unique hf mem (parks.apart f hf e mem n also.1.2 stamp)

theorem State.nodup_parkedKeys {s : State} (table : s.service.Table) (p : Entry → Bool) : (s.parkedKeys p).Nodup := by
  have numbers : [1, 2, 3, 4, 5, 6, 7, 8].Nodup := by decide
  refine List.Nodup.filterMap (fun a b k ha hb => ?_) numbers
  obtain ⟨x, fx, xk⟩ := Option.map_eq_some_iff.mp ha
  obtain ⟨y, fy, yk⟩ := Option.map_eq_some_iff.mp hb
  obtain rfl := table.unique (List.mem_of_find?_eq_some fx) (List.mem_of_find?_eq_some fy) (xk.trans yk.symm)
  have px := List.find?_some fx
  have py := List.find?_some fy
  simp only [Bool.and_eq_true, decide_eq_true_eq] at px py
  exact Option.some.inj (px.1.2.symm.trans py.1.2)

theorem State.perm_parkedKeys {s : State} {p : Entry → Bool} (table : s.service.Table) (parks : s.service.Parks) :
    (s.parkedKeys p).Perm ((s.service.entries.filter fun e => p e && e.state = .parked).map (·.key)) := by
  have nodup : ((s.service.entries.filter fun e => p e && e.state = .parked).map (·.key)).Nodup :=
    (List.filter_sublist.map _).nodup table.2.1
  refine (List.perm_ext_iff_of_nodup (State.nodup_parkedKeys table p) nodup).mpr fun k => ?_
  constructor
  · intro key
    obtain ⟨e, mem, rfl, -⟩ := State.mem_parkedKeys key
    obtain ⟨parked, picked⟩ := (State.mem_parkedKeys_iff table parks mem).mp key
    exact List.mem_map_of_mem (List.mem_filter.mpr ⟨mem, by simp [parked, picked]⟩)
  · intro key
    obtain ⟨e, mem, rfl⟩ := List.mem_map.mp key
    obtain ⟨mem, also⟩ := List.mem_filter.mp mem
    simp only [Bool.and_eq_true, decide_eq_true_eq] at also
    exact (State.mem_parkedKeys_iff table parks mem).mpr ⟨also.2, also.1⟩

/-- The lower stamps that leave, counted in the table. -/
theorem State.stampsBelow_parkedKeys {s : State} {p : Entry → Bool} (table : s.service.Table) (parks : s.service.Parks) (n : Nat) :
    s.service.stampsBelow (s.parkedKeys p) n =
      (s.service.entries.filter fun f => (p f && f.state = .parked) && f.stamp.any (· < n)).length := by
  rw [Service.stampsBelow, (State.perm_parkedKeys table parks).countP_eq, List.countP_map, List.countP_eq_length_filter,
    List.filter_filter]
  refine congrArg List.length (List.filter_congr fun f mem => ?_)
  rw [Function.comp_apply, table.entry?_of_mem mem, Option.bind_some, Bool.and_comm]

/-- The PARKED entries that `p` picks join the queue in park order (R44, R48). -/
theorem State.foldl_parkedKeys {s t : State} {p : Entry → Bool} {f : Entry → Entry} (blind : Entry.Blind f)
    (table : s.service.Table) (parks : s.service.Parks) (entries : t.service.entries = s.service.entries)
    (queue : t.service.queue = s.service.queue) :
    (s.parkedKeys p).foldl (fun t k => t.queueEntry k f) t = { t with service := { t.service with
      entries := s.service.entries.map fun e =>
        if p e && e.state = .parked then { f e with stamp := none, parkTimer := none }
        else { e with stamp := e.stamp.map fun n =>
          n - (s.service.entries.filter fun x => (p x && x.state = .parked) && x.stamp.any (· < n)).length }
      queue := s.service.queue ++ s.parkedKeys p } } := by
  have same (k : Key) : t.service.entry? k = s.service.entry? k := by rw [Service.entry?, entries]; rfl
  have present : ∀ k ∈ s.parkedKeys p, ∃ e, t.entry? k = some e := by
    intro k key
    obtain ⟨e, mem, rfl, -⟩ := State.mem_parkedKeys key
    exact ⟨e, (same e.key).trans (table.entry?_of_mem mem)⟩
  have apart : t.service.Apart := by
    intro x hx y hy
    rw [entries] at hx hy
    exact parks.apart x hx y hy
  have below (n : Nat) : t.service.stampsBelow (s.parkedKeys p) n = s.service.stampsBelow (s.parkedKeys p) n :=
    List.countP_congr fun k _ => by rw [same]
  have absent : s.service.queue.filter (fun j => decide (j ∉ s.parkedKeys p)) = s.service.queue := by
    refine List.filter_eq_self.mpr fun k mem => decide_eq_true fun key => ?_
    obtain ⟨e, he, rfl, -⟩ := State.mem_parkedKeys key
    have parked := ((State.mem_parkedKeys_iff table parks he).mp key).1
    exact Service.Table.not_queued table (table.entry?_of_mem he) (by simp [Entry.waits, parked]) mem
  have each : ∀ e ∈ s.service.entries, t.service.joined (s.parkedKeys p) f e =
      if p e && e.state = .parked then { f e with stamp := none, parkTimer := none }
      else { e with stamp := e.stamp.map fun n =>
        n - (s.service.entries.filter fun x => (p x && x.state = .parked) && x.stamp.any (· < n)).length } := by
    intro e mem
    have picked := State.mem_parkedKeys_iff (p := p) table parks mem
    by_cases key : e.key ∈ s.parkedKeys p
    · obtain ⟨parked, also⟩ := picked.mp key
      rw [Service.joined_of_mem key, if_pos (by simp [parked, also])]
    · have not : ¬ (p e && e.state = .parked) = true := fun both => by
        simp only [Bool.and_eq_true, decide_eq_true_eq] at both
        exact key (picked.mpr ⟨both.2, both.1⟩)
      rw [Service.joined_of_not_mem key, if_neg not]
      simp only [below, State.stampsBelow_parkedKeys table parks]
  rw [State.foldl_queueEntry blind _ t (State.nodup_parkedKeys table p) (queue ▸ table.2.2.1) apart present, entries, queue, absent,
    List.map_congr_left each]

end Sys2Proof.Machine
end

section
/-! RELEASE (O21). -/

namespace Sys2Proof.Machine

/-! ### The window that HOLD and RELEASE name (R40) -/

theorem argWindow?_of_lt {a : Word} {w : WindowId} (low : w.val = a.toNat % 256) : argWindow? a = some w := by
  have inside : argLow a < 8 := by unfold argLow; omega
  rw [argWindow?, dif_pos inside]
  simp only [argLow, ← low, Fin.eta]

theorem State.namedWindow?_of_gt {s : State} {a : Word} (high : 7 < a.toNat % 256) : s.namedWindow? a = none := by
  have none : argWindow? a = Option.none := dif_neg (not_lt.mpr high)
  rw [State.namedWindow?, none]
  rfl

theorem State.namedWindow?_of_lt {s : State} {a : Word} {w : WindowId} (low : w.val = a.toNat % 256) :
    s.namedWindow? a = if (s.window w).enabled then some w else none := by
  rw [State.namedWindow?, argWindow?_of_lt low]
  rfl

/-! ### The entries that return (R44, R45) -/

/-- The Service Unit after a RELEASE of window `w`. -/
def Service.released (s : State) (w : WindowId) : Service :=
  { windows := s.service.windows.set w { s.window w with hold := .ready }
    entries := s.service.entries.map fun e =>
      if (e.window = w && e.state = .parked : Bool) then { e with state := .ready, stamp := none, parkTimer := none }
      else { e with stamp := e.stamp.map fun n =>
        n - (s.service.entries.filter fun f => (f.window = w && f.state = .parked) && f.stamp.any (· < n)).length }
    queue := s.service.queue ++ s.parkedKeys fun e => e.window = w }

theorem State.releaseHeld_eq {s : State} (table : s.service.Table) (parks : s.service.Parks) (w : WindowId) :
    s.releaseHeld w = { s with service := Service.released s w } :=
  (State.foldl_parkedKeys (s := s) (t := s.setHold w .ready) (p := fun e => e.window = w)
    (f := fun e => { e with state := .ready }) (fun _ _ => ⟨rfl, rfl⟩) table parks rfl rfl).trans rfl

theorem State.window_released (s : State) (w : WindowId) :
    ({ s with service := Service.released s w } : State).window w = { s.window w with hold := .ready } :=
  (s.window_setHold w w .ready).trans (if_pos rfl)

/-- The mover of a READ target asks for the next payload in its window (R145). -/
theorem State.moverAsk_window {s : State} {b : PayloadBuffer} {e : Entry} (free : s.moverBusy = false)
    (buffer : s.mover.buffer = some b) (fresh : b.bytes = []) (some : 0 < b.len) (role : s.engine.role = .target)
    (found : s.entry? s.engine.key = Option.some e) (inside : (s.window e.window).base + e.offset + b.pos < 4294967296)
    (short : b.len ≤ 256) :
    s.moverAsk = { s with port := s.port.asked .mover (.read ((s.window e.window).base + e.offset + b.pos)
      (min b.len (64 - ((s.window e.window).base + e.offset + b.pos) % 64))) } := by
  have none : s.usesList = false := by simp [State.usesList, role]
  have place : s.placeOf b.pos = .found ((s.window e.window).base + e.offset + b.pos) Config.maxLength := by
    simp [State.placeOf, role, found]
  rw [State.moverAsk_read free buffer (by rw [fresh]; exact some), fresh]
  refine (State.askPiece_found (by rw [State.cursorSettled_of_no_list none]; exact place) inside).trans ?_
  rw [State.cursorSettled_of_no_list none, chunk]
  have whole : min (b.len - ([] : List Byte).length) Config.maxLength = b.len := by
    simp only [List.length_nil, Config.maxLength]
    omega
  rw [whole]
  rfl

/-- An entry that is neither PARKED nor stamped is not changed by a RELEASE. -/
theorem Service.entry?_released {s : State} {w : WindowId} {k : Key} {e : Entry} (found : s.entry? k = some e)
    (connected : e.state = .connected) (stamp : e.stamp = none) : (Service.released s w).entry? k = some e := by
  refine (Service.entry?_map (v := s.service) fun e => ?_).trans ((congrArg (Option.map _) found).trans ?_)
  · split <;> rfl
  · simp only [Option.map_some, connected, reduceCtorEq, decide_false, Bool.and_false, Bool.false_eq_true, if_false, stamp,
      Option.map_none]
    rw [← stamp, ← connected]

/-- Settles O21: the PARKED entries return in park order, and a sender that the hold had stopped goes on. -/
theorem releaseCommand : Obligations.ReleaseCommand := by
  intro s ready taken n
  have asked : exec .release s = .next (s.accepted.doRelease s.host.argument) :=
    next_congr (State.takeCommand_ready _ ready)
  have named (member : taken) : s.accepted.doRelease s.host.argument =
      match s.accepted.namedWindow? s.host.argument with
      | none => s.accepted.finish codeRelease .badArgument
      | some w =>
        match (s.accepted.window w).hold with
        | .ready => s.accepted.finish codeRelease .ok
        | .holding => ((s.accepted.releaseHeld w).feed).finish codeRelease .ok
        | .held => ((s.accepted.releaseHeld w).feed).finish codeRelease .ok :=
    (if_pos ((StationState.configured_iff _).mpr member)).trans rfl
  refine ⟨fun other => ?_, fun member high => ?_, fun w low member => ⟨fun disabled => ?_, fun enabled isOpen => ?_,
    fun enabled closed table parks => ?_⟩⟩
  · rw [asked]
    exact next_congr ((if_neg fun on => other ((StationState.configured_iff _).mp on)).trans rfl)
  · rw [asked, named member, State.namedWindow?_of_gt high]
    rfl
  · have none : s.accepted.namedWindow? s.host.argument = Option.none :=
      (State.namedWindow?_of_lt low).trans (if_neg (by exact disabled ▸ Bool.false_ne_true))
    rw [asked, named member, none]
    rfl
  · have some : s.accepted.namedWindow? s.host.argument = Option.some w :=
      (State.namedWindow?_of_lt low).trans (if_pos enabled)
    rw [asked, named member, some]
    dsimp only
    rw [show (s.accepted.window w).hold = .ready from isOpen]
    rfl
  · intro moved
    let r : State := { s.accepted with service := Service.released s w }
    have some : s.accepted.namedWindow? s.host.argument = Option.some w :=
      (State.namedWindow?_of_lt low).trans (if_pos enabled)
    have released : s.accepted.releaseHeld w = r := State.releaseHeld_eq (s := s.accepted) table parks w
    have runs : exec .release s = .next (r.feed.finish codeRelease .ok) := by
      rw [asked, named member, some]
      dsimp only
      cases hold : (s.accepted.window w).hold with
      | ready => exact absurd hold closed
      | holding => rw [released]
      | held => rw [released]
    have fed : r.feed = _ := (State.MoverStep.feed r).blocks
    have service : (r.feed.finish codeRelease .ok).service = Service.released s w := congrArg State.service fed
    refine ⟨_, runs, ?_, ?_, ?_, fun still => ?_, fun e found own connected role read sending none undecided tenure credit left
      fresh empty free => ?_⟩
    · have same := State.window_of_service (s := r) service w
      rw [same, show r.window w = _ from State.window_released s w]
    · rw [service]
      rfl
    · rw [service]
      rfl
    · have stays : r.feed = r := by
        refine if_neg fun all => ?_
        rcases still with other | filled
        · exact other all.1
        · exact Bool.false_ne_true ((Option.isSome_eq_false_iff.mpr (Option.isNone_iff_eq_none.mpr all.2.2)).symm.trans filled)
      rw [service, stays]
      rfl
    · intro n a inside
      have stamp : e.stamp = Option.none :=
        Service.Parks.stamp_of_unparked parks (Service.entry?_mem found).1 (connected ▸ EntryState.noConfusion)
      have found' : r.entry? r.engine.key = Option.some e := Service.entry?_released found connected stamp
      have window : r.window e.window = { s.window w with hold := .ready } := by
        rw [own]
        exact State.window_released s.accepted w
      have free' : r.stopped = false := State.stopped_target role undecided tenure found' (by rw [window])
      have next : r.nextFrame? = Option.some (s.engine.sendPos, n) :=
        State.nextFrame?_fresh (Engine.resend?_of_none fresh) credit left free'
      let b : State := { r with mover := { r.mover with buffer := Option.some ⟨s.engine.sendPos, n, [], false⟩ } }
      have place : (b.window e.window).base + e.offset + s.engine.sendPos = a := congrArg (·.base + e.offset + s.engine.sendPos) window
      have ask : b.moverAsk = { b with port := s.port.asked .mover (.read a (min n (64 - a % 64))) } := by
        rw [State.moverAsk_window (s := b) (e := e) free rfl rfl (by simp only [n]; omega) role found' (by rw [place]; exact inside)
          (min_le_left _ _), place]
        rfl
      have goes : r.feed = { b with port := s.port.asked .mover (.read a (min n (64 - a % 64))) } :=
        (State.feed_sending (s := r) sending none empty next).trans ask
      rw [service, goes]
      rfl

end Sys2Proof.Machine
end

section
/-! Entries that are PARKED one after the other (R41, R45, R48). -/

namespace Sys2Proof.Machine

/-- What becomes of an entry when the entries of these keys are PARKED in order. -/
def Service.setAside (v : Service) (l : List Key) (timer : Timer) (e : Entry) : Entry :=
  if e.key ∈ l then
    { e with state := .parked, stamp := some (parkedCount v.entries + l.idxOf e.key + 1), parkTimer := timer }
  else e

theorem Service.setAside_key (v : Service) (l : List Key) (timer : Timer) (e : Entry) : (v.setAside l timer e).key = e.key := by
  unfold Service.setAside
  split <;> rfl

theorem Service.park_table {v : Service} (table : v.Table) (k : Key) (timer : Timer) : (v.park k timer).Table :=
  table.unqueue (f := fun x => { x with state := .parked, stamp := some (parkedCount v.entries + 1), parkTimer := timer })
    (g := fun x => x) (fun _ => rfl) (fun _ => rfl) (fun _ => rfl) fun _ => rfl

/-- One more entry is PARKED. -/
theorem Service.parkedCount_park {v : Service} (table : v.Table) {k : Key} {e : Entry} (found : v.entry? k = some e)
    (other : e.state ≠ .parked) (timer : Timer) : parkedCount (v.park k timer).entries = parkedCount v.entries + 1 := by
  obtain ⟨before, after, split, first, last⟩ := table.split found
  have key : e.key = k := (Service.entry?_mem found).2
  have same {l : List Entry} (others : ∀ x ∈ l, x.key ≠ k) (n : Nat) : (l.map fun x =>
      if x.key = k then { x with state := .parked, stamp := some n, parkTimer := timer } else x) = l :=
    (List.map_congr_left fun x mem => if_neg (others x mem)).trans (List.map_id _)
  have entries : (v.park k timer).entries = before ++
      { e with state := .parked, stamp := some (parkedCount v.entries + 1), parkTimer := timer } :: after := by
    show v.entries.map _ = _
    rw [split, List.map_append, List.map_cons, same first, same last, if_pos key]
  rw [entries, split]
  simp only [parkedCount, List.filter_append, List.filter_cons, other, decide_true, decide_false, if_true, Bool.false_eq_true,
    if_false, List.length_append, List.length_cons]
  omega

theorem Service.entry?_park_of_ne {v : Service} {j k : Key} (other : j ≠ k) (timer : Timer) :
    (v.park k timer).entry? j = v.entry? j := by
  refine (Service.entry?_map (v := v) fun e => by split <;> rfl).trans ?_
  cases found : v.entry? j with
  | none => rfl
  | some e =>
    have apart : e.key ≠ k := (Service.entry?_mem found).2 ▸ other
    simp [apart]

/-- Entries are PARKED one after the other: each takes the next stamp. -/
theorem State.foldl_parkEntry (l : List Key) : ∀ s : State, l.Nodup → s.service.Table → s.station.state ≠ .leaving →
    (∀ k ∈ l, ∃ e, s.entry? k = some e ∧ e.state ≠ .parked) →
    l.foldl State.parkEntry s = { s with service := { s.service with
      entries := s.service.entries.map (s.service.setAside l (some s.parkSpan))
      queue := s.service.queue.filter fun j => decide (j ∉ l) } } := by
  induction l with
  | nil =>
    intro s _ _ _ _
    have same : s.service.entries.map (s.service.setAside [] (some s.parkSpan)) = s.service.entries :=
      (List.map_congr_left fun e _ => by simp [Service.setAside]).trans (List.map_id _)
    simp [same]
  | cons k l ih =>
    intro s distinct table online present
    obtain ⟨fresh, distinct⟩ := List.nodup_cons.mp distinct
    obtain ⟨e, found, unparked⟩ := present k List.mem_cons_self
    let v : Service := s.service.park k (some s.parkSpan)
    have present' : ∀ j ∈ l, ∃ y, ({ s with service := v } : State).entry? j = some y ∧ y.state ≠ .parked := by
      intro j mem
      obtain ⟨y, at', other⟩ := present j (List.mem_cons_of_mem k mem)
      exact ⟨y, (Service.entry?_park_of_ne (v := s.service) (j := j) (k := k) (fun same => fresh (same ▸ mem)) _).trans at', other⟩
    have count : parkedCount v.entries = parkedCount s.service.entries + 1 := Service.parkedCount_park table found unparked _
    rw [List.foldl_cons, State.parkEntry_eq found online unparked,
      ih { s with service := v } distinct (Service.park_table table k _) online present']
    have entries : v.entries.map (v.setAside l (some s.parkSpan)) =
        s.service.entries.map (s.service.setAside (k :: l) (some s.parkSpan)) := by
      refine List.map_map.trans (List.map_congr_left fun x _ => ?_)
      by_cases own : x.key = k
      · simp [Service.setAside, own, fresh]
      · have step : (if x.key = k then { x with state := .parked, stamp := some (parkedCount s.service.entries + 1),
                                                parkTimer := some s.parkSpan } else x : Entry) = x := if_neg own
        rw [Function.comp_apply, step]
        by_cases mem : x.key ∈ l
        · have index : (k :: l).idxOf x.key = l.idxOf x.key + 1 := List.idxOf_cons_ne _ (Ne.symm own)
          rw [Service.setAside, if_pos mem, Service.setAside, if_pos (List.mem_cons_of_mem k mem), count, index]
          have sum : parkedCount s.service.entries + 1 + l.idxOf x.key = parkedCount s.service.entries + (l.idxOf x.key + 1) := by
            omega
          rw [sum]
        · rw [Service.setAside, if_neg mem, Service.setAside, if_neg (by simp [own, mem])]
    have queue : v.queue.filter (fun j => decide (j ∉ l)) = s.service.queue.filter fun j => decide (j ∉ k :: l) := by
      show (s.service.queue.erase k).filter _ = _
      rw [table.2.2.1.erase_eq_filter, List.filter_filter]
      refine List.filter_congr fun j _ => ?_
      by_cases own : j = k <;> simp [own]
    exact congrArg₂ (fun es q => ({ s with service := { s.service with entries := es, queue := q } } : State)) entries queue

/-- An entry as it becomes WITHDRAW_DUE with reason LEAVING (R48). -/
def Entry.leaving (e : Entry) : Entry := { e with state := .withdrawDue, withdrawReason := some .leaving }

theorem Entry.leaving_blind : Entry.Blind Entry.leaving := fun _ _ => ⟨rfl, rfl⟩

/-- While LEAVING an entry that would be PARKED becomes WITHDRAW_DUE (R48). -/
theorem State.foldl_parkEntry_leaving (l : List Key) : ∀ s : State, s.station.state = .leaving →
    l.foldl State.parkEntry s = l.foldl (fun s k => s.queueEntry k Entry.leaving) s := by
  induction l with
  | nil => exact fun _ _ => rfl
  | cons k l ih =>
    intro s leaving
    have first : s.parkEntry k = s.queueEntry k Entry.leaving := if_pos leaving
    rw [List.foldl_cons, List.foldl_cons, ih _ (by rw [State.parkEntry_frame s k |>.1]; exact leaving), first]

end Sys2Proof.Machine
end

section
/-! HOLD (O20). -/

namespace Sys2Proof.Machine

/-! ### The READY entries of the window (R41) -/

/-- The keys that HOLD takes out of the resume queue, in its order. -/
def State.readyKeys (s : State) (w : WindowId) : List Key :=
  s.service.queue.filter fun k => (s.entry? k).elim false fun e => e.window = w && e.state = .ready

theorem State.mem_readyKeys {s : State} {w : WindowId} {k : Key} : k ∈ s.readyKeys w ↔
    k ∈ s.service.queue ∧ ∃ e, s.entry? k = some e ∧ e.window = w ∧ e.state = .ready := by
  rw [State.readyKeys, List.mem_filter]
  refine and_congr_right fun _ => ?_
  cases s.entry? k <;> simp

/-- In a table in order they are the keys of the READY entries on the window. -/
theorem State.mem_readyKeys_of_mem {s : State} {w : WindowId} (table : s.service.Table) {e : Entry} (mem : e ∈ s.service.entries) :
    e.key ∈ s.readyKeys w ↔ e.window = w ∧ e.state = .ready := by
  rw [State.mem_readyKeys]
  have found : s.entry? e.key = some e := table.entry?_of_mem mem
  constructor
  · rintro ⟨-, f, found', own⟩
    obtain rfl := Option.some.inj (found.symm.trans found')
    exact own
  · intro own
    have waits : e.waits = true := by simp [Entry.waits, own.2]
    exact ⟨table.2.2.2.2 e mem waits, e, found, own⟩

theorem State.readyKeys_eq {s : State} (table : s.service.Table) (w : WindowId) :
    s.readyKeys w = s.service.queue.filter fun k =>
      s.service.entries.any fun e => e.key = k && (e.window = w && e.state = .ready) := by
  refine List.filter_congr fun k mem => ?_
  obtain ⟨e, he, rfl, -⟩ := table.2.2.2.1 k mem
  rw [show s.entry? e.key = some e from table.entry?_of_mem he, Option.elim_some, Bool.eq_iff_iff, List.any_eq_true]
  constructor
  · exact fun own => ⟨e, he, by simpa using own⟩
  · rintro ⟨f, hf, also⟩
    simp only [Bool.and_eq_true, decide_eq_true_eq] at also
    obtain rfl := table.unique hf he also.1
    simpa using also.2

/-! ### HOLD of a READY window -/

theorem State.holdReady_eq (s : State) (w : WindowId) :
    s.holdReady w =
      let t := (s.readyKeys w).foldl State.parkEntry s
      if t.service.entries.any (·.keeps w) then t.setHold w .holding else (t.setHold w .held).raise .windowHeld := rfl

/-- The window's hold state after its READY entries have been set aside, each as `g` of itself. -/
theorem State.holdReady_settled {s : State} {w : WindowId} {g : Entry → Entry} {queue : List Key}
    (keeps : ∀ e ∈ s.service.entries, (g e).keeps w = e.keeps w)
    (aside : (s.readyKeys w).foldl State.parkEntry s =
      { s with service := { s.service with entries := s.service.entries.map g, queue := queue } }) :
    let kept := s.service.entries.any (·.keeps w)
    s.holdReady w = { s with
      service :=
        { windows := s.service.windows.set w { s.window w with hold := if kept then .holding else .held }
          entries := s.service.entries.map g, queue := queue }
      host := if kept then s.host else s.host.raised .windowHeld } := by
  intro kept
  have same : (s.service.entries.map g).any (·.keeps w) = kept := by
    rw [List.any_map, Bool.eq_iff_iff, List.any_eq_true, List.any_eq_true]
    exact exists_congr fun e => and_congr_right fun mem => by rw [Function.comp_apply, keeps e mem]
  rw [State.holdReady_eq, aside]
  dsimp only
  rw [same]
  cases kept <;> rfl

theorem State.parkEntry_shape (s : State) (k : Key) : ∃ (g : Entry → Entry) (queue : List Key),
    s.parkEntry k = { s with service := { s.service with entries := s.service.entries.map g, queue := queue } } ∧
      ∀ e : Entry, (g e).key = e.key ∧ (g e).window = e.window ∧
        ((g e).state = e.state ∨ (e.key = k ∧ ((g e).state = .parked ∨ (g e).state = .withdrawDue))) := by
  have same : ∃ (g : Entry → Entry) (queue : List Key),
      s = { s with service := { s.service with entries := s.service.entries.map g, queue := queue } } ∧
        ∀ e : Entry, (g e).key = e.key ∧ (g e).window = e.window ∧
          ((g e).state = e.state ∨ (e.key = k ∧ ((g e).state = .parked ∨ (g e).state = .withdrawDue))) := by
    refine ⟨id, s.service.queue, ?_, fun e => ⟨rfl, rfl, .inl rfl⟩⟩
    rw [List.map_id]
  cases found : s.entry? k with
  | none =>
    have still : s.parkEntry k = s := by
      unfold State.parkEntry State.withdrawEntry
      rw [State.queueEntry_of_none s k _ found, found, ite_self]
    rw [still]
    exact same
  | some e =>
    by_cases leaving : s.station.state = .leaving
    · refine ⟨Entry.requeued k e.stamp Entry.leaving, s.service.queue.erase k ++ [k], ?_, fun e => ?_⟩
      · rw [State.parkEntry, if_pos leaving]
        exact (State.queueEntry_eq found Entry.leaving).trans
          (congrArg (fun v => ({ s with service := v } : State)) (Service.requeue_eq Entry.leaving_blind s.service))
      · unfold Entry.requeued
        split
        case isTrue own => exact ⟨rfl, rfl, .inr ⟨own, .inr rfl⟩⟩
        case isFalse => simp
    · by_cases parked : e.state = .parked
      · have still : s.parkEntry k = s := by simp only [State.parkEntry, leaving, found, parked, if_false, if_true]
        rw [still]
        exact same
      · refine ⟨fun x => if x.key = k then { x with state := .parked, stamp := some (parkedCount s.service.entries + 1),
                                                    parkTimer := some s.parkSpan } else x, s.service.queue.erase k, ?_, fun e => ?_⟩
        · rw [State.parkEntry_eq found leaving parked]
          rfl
        · dsimp only
          split
          case isTrue own => exact ⟨rfl, rfl, .inr ⟨own, .inl rfl⟩⟩
          case isFalse => exact ⟨rfl, rfl, .inl rfl⟩

theorem State.holdReady_tables (s : State) (w : WindowId) :
    (s.holdReady w).service.entries = ((s.readyKeys w).foldl State.parkEntry s).service.entries ∧
      (s.holdReady w).service.queue = ((s.readyKeys w).foldl State.parkEntry s).service.queue := by
  rw [State.holdReady_eq]
  dsimp only
  split <;> exact ⟨rfl, rfl⟩

/-- Entries that are set aside keep their keys and windows; one whose state changes is PARKED or WITHDRAW_DUE. -/
theorem State.foldl_parkEntry_shape (l : List Key) : ∀ s : State, ∃ (g : Entry → Entry) (queue : List Key),
    l.foldl State.parkEntry s = { s with service := { s.service with entries := s.service.entries.map g, queue := queue } } ∧
      ∀ e : Entry, (g e).key = e.key ∧ (g e).window = e.window ∧
        ((g e).state = e.state ∨ (e.key ∈ l ∧ ((g e).state = .parked ∨ (g e).state = .withdrawDue))) := by
  induction l with
  | nil =>
    intro s
    refine ⟨id, s.service.queue, ?_, fun e => ⟨rfl, rfl, .inl rfl⟩⟩
    rw [List.map_id]
    rfl
  | cons k l ih =>
    intro s
    obtain ⟨f, q, first, frame⟩ := s.parkEntry_shape k
    obtain ⟨g, queue, rest, frames⟩ := ih (s.parkEntry k)
    refine ⟨g ∘ f, queue, ?_, fun e => ?_⟩
    · rw [List.foldl_cons, rest, first]
      exact congrArg (fun es => ({ s with service := { s.service with entries := es, queue := queue } } : State)) List.map_map
    · obtain ⟨key, window, state⟩ := frame e
      obtain ⟨key', window', state'⟩ := frames (f e)
      refine ⟨key'.trans key, window'.trans window, ?_⟩
      rcases state' with same | ⟨mem, changed⟩
      · rcases state with old | ⟨own, changed⟩
        · exact .inl (same.trans old)
        · exact .inr ⟨own ▸ List.mem_cons_self, by rw [Function.comp_apply, same]; exact changed⟩
      · exact .inr ⟨List.mem_cons_of_mem k (key ▸ mem), changed⟩

/-- Off the window that is held, the Engine takes no notice (R42). -/
theorem State.holdReaches_other {s : State} {w : WindowId}
    (other : s.engine.role = .initiator ∨ ∀ e ∈ s.service.entries, e.key = s.engine.key → e.window ≠ w) : s.holdReaches w = s := by
  refine if_neg fun both => ?_
  rcases other with role | off
  · exact nomatch role.symm.trans both.1
  · cases found : s.entry? s.engine.key with
    | none => simp [found] at both
    | some e =>
      obtain ⟨mem, key⟩ := Service.entry?_mem found
      rw [found] at both
      exact off e mem key (by simpa using both.2)

/-- The Engine that meets a hold keeps the tables. -/
theorem State.holdReaches_service (s : State) (w : WindowId) : (s.holdReaches w).service = s.service := by
  unfold State.holdReaches
  split
  · rw [(State.targetPoint_frame _).2.2.2.1]
    split
    · exact (State.stopRead_frame s).2.2.2.2.2.1
    · rfl
  · rfl

theorem exec_hold {s : State} (ready : s.host.busy = false) : exec .hold s = .next (s.accepted.doHold s.host.argument) :=
  next_congr (State.takeCommand_ready _ ready)

theorem State.doHold_named {s : State} {a : Word} {w : WindowId}
    (member : s.station.state = .joining ∨ s.station.state = .online ∨ s.station.state = .leaving) (low : w.val = a.toNat % 256)
    (enabled : (s.window w).enabled = true) :
    s.doHold a = match (s.window w).hold with
      | .ready => ((s.holdReady w).holdReaches w).finish codeHold .ok
      | .holding => s.finish codeHold .ok
      | .held => (s.raise .windowHeld).finish codeHold .ok := by
  refine (if_pos ((StationState.configured_iff _).mpr member)).trans ?_
  rw [State.namedWindow?_of_lt low, if_pos enabled] <;> rfl

/-- The READ target's entry is not set aside, and stays as it is. -/
theorem State.entry?_foldl_parkEntry {k : Key} (l : List Key) (absent : k ∉ l) : ∀ s : State, s.station.state ≠ .leaving →
    (l.foldl State.parkEntry s).entry? k = s.entry? k := by
  induction l with
  | nil => exact fun _ _ => rfl
  | cons j l ih =>
    intro s online
    obtain ⟨other, absent⟩ := not_or.mp (List.mem_cons.not.mp absent)
    have first : (s.parkEntry j).entry? k = s.entry? k := by
      cases found : s.entry? j with
      | none =>
        have same : s.parkEntry j = s := by simp only [State.parkEntry, online, found, if_false]
        rw [same]
      | some e =>
        by_cases parked : e.state = .parked
        · have same : s.parkEntry j = s := by simp only [State.parkEntry, online, found, parked, if_false, if_true]
          rw [same]
        · rw [State.parkEntry_eq found online parked]
          exact Service.entry?_park_of_ne other _
    rw [List.foldl_cons, ih absent _ (by rw [(State.parkEntry_frame s j).1]; exact online), first]

/-- A READ target with nothing outstanding is at its point: it decides to close with FINISH or DISCONNECT(HELD) (R42, R90). -/
theorem State.readPoint_held {s : State} (empty : s.engine.unacked = [])
    (short : s.engine.length ≤ s.engine.sendPos ∨ s.engine.tenureCount < s.settings.tenureLimit) (stopped : s.stopped = true) :
    s.readPoint = s.close (if s.engine.length ≤ s.engine.sendPos then .finish s.engine.length
      else .disconnect .held s.entryProgress) := by
  rw [State.readPoint_eq, State.readClosing, if_neg (not_not_intro empty)]
  by_cases complete : s.engine.length ≤ s.engine.sendPos
  · rw [if_pos complete, if_pos complete]
    rfl
  · rw [if_neg complete, if_neg complete, if_neg (not_le.mpr (short.resolve_left complete)), if_pos stopped]
    rfl

theorem State.window_set_hold (s : State) (w : WindowId) (h : HoldState) (es : List Entry) (q : List Key) :
    ({ s with service := { windows := s.service.windows.set w { s.window w with hold := h }, entries := es, queue := q } } :
      State).window w = { s.window w with hold := h } :=
  (s.window_setHold w w h).trans (if_pos rfl)

/-- Settles O20: HOLD by the window's hold state, and the READ target that it meets. -/
theorem holdCommand : Obligations.HoldCommand := by
  refine ⟨fun s ready => ?_, fun s e ready online found named enabled isOpen connected role sending none undecided => ?_⟩
  · intro taken n
    refine ⟨fun other => ?_, fun member high => ?_, fun w low member => ⟨fun disabled => ?_, fun enabled => ⟨fun hold => ?_,
      fun hold => ?_, fun hold table => ?_⟩⟩⟩
    · rw [exec_hold ready]
      exact next_congr ((if_neg fun on => other ((StationState.configured_iff _).mp on)).trans rfl)
    · rw [exec_hold ready]
      refine next_congr ((if_pos ((StationState.configured_iff _).mpr member)).trans ?_)
      rw [State.namedWindow?_of_gt high]
      rfl
    · rw [exec_hold ready]
      refine next_congr ((if_pos ((StationState.configured_iff _).mpr member)).trans ?_)
      rw [State.namedWindow?_of_lt low, if_neg (by exact disabled ▸ Bool.false_ne_true)]
      rfl
    · rw [exec_hold ready, State.doHold_named (s := s.accepted) member low enabled, show (s.accepted.window w).hold = .holding from hold]
      rfl
    · rw [exec_hold ready, State.doHold_named (s := s.accepted) member low enabled, show (s.accepted.window w).hold = .held from hold]
      rfl
    · intro kept set keys
      let r : State := s.accepted.holdReady w
      have runs : exec .hold s = .next ((r.holdReaches w).finish codeHold .ok) := by
        rw [exec_hold ready, State.doHold_named (s := s.accepted) member low enabled, show (s.accepted.window w).hold = .ready from hold]
      have service : ((r.holdReaches w).finish codeHold .ok).service = r.service := r.holdReaches_service w
      have listed : s.accepted.readyKeys w = keys := State.readyKeys_eq (s := s.accepted) table w
      have mem_keys (e : Entry) (mem : e ∈ s.service.entries) : e.key ∈ keys ↔ e.window = w ∧ e.state = .ready := by
        rw [← listed]
        exact State.mem_readyKeys_of_mem (s := s.accepted) table mem
      have nodup : keys.Nodup := table.2.2.1.filter _
      have present : ∀ k ∈ keys, ∃ e, s.entry? k = some e ∧ e.window = w ∧ e.state = .ready := by
        intro k mem
        rw [← listed] at mem
        exact (State.mem_readyKeys.mp mem).2
      have picks (e : Entry) (mem : e ∈ s.service.entries) {x y : Entry} :
          (if e.key ∈ keys then x else y) = if set e then x else y :=
        if_congr ((mem_keys e mem).trans (by simp [set])) rfl rfl
      have tables : r.service.entries = (keys.foldl State.parkEntry s.accepted).service.entries ∧
          r.service.queue = (keys.foldl State.parkEntry s.accepted).service.queue := by
        rw [← listed]
        exact s.accepted.holdReady_tables w
      obtain ⟨g, queue, aside, frame⟩ := State.foldl_parkEntry_shape keys s.accepted
      have keeps : ∀ e ∈ s.service.entries, (g e).keeps w = e.keeps w := by
        intro e mem
        obtain ⟨-, window, state⟩ := frame e
        rcases state with same | ⟨key, changed⟩
        · simp only [Entry.keeps, window, same]
        · have was := ((mem_keys e mem).mp key).2
          rcases changed with now | now <;> simp [Entry.keeps, now, was]
      have held : r = { s.accepted with
          service :=
            { windows := s.service.windows.set w { s.window w with hold := if kept then .holding else .held }
              entries := s.service.entries.map g, queue := queue }
          host := if kept then s.accepted.host else s.accepted.host.raised .windowHeld } :=
        State.holdReady_settled (s := s.accepted) keeps ((congrArg (List.foldl State.parkEntry s.accepted) listed).trans aside)
      refine ⟨_, runs, ?_, fun staying => ?_, fun leaving unstamped => ?_, fun other => ?_⟩
      · have window := State.window_set_hold s.accepted w (if kept then .holding else .held) (s.service.entries.map g) queue
        have same := State.window_of_service (s := r) service w
        rw [same, held]
        exact congrArg (·.hold) window
      · rw [service, tables.1, tables.2, State.foldl_parkEntry keys s.accepted nodup table staying fun k mem => by
          obtain ⟨e, found, -, state⟩ := present k mem
          exact ⟨e, found, state ▸ EntryState.noConfusion⟩]
        refine ⟨rfl, List.map_congr_left fun e mem => ?_⟩
        refine (picks e mem).trans (if_congr Iff.rfl ?_ rfl)
        rfl
      · have apart : s.accepted.service.Apart := fun x hx _ _ _ stamp => nomatch (unstamped x hx).2.symm.trans stamp
        rw [service, tables.1, tables.2, State.foldl_parkEntry_leaving keys s.accepted leaving,
          State.foldl_queueEntry Entry.leaving_blind keys s.accepted nodup table.2.2.1 apart fun k mem => by
            obtain ⟨e, found, -⟩ := present k mem
            exact ⟨e, found⟩]
        refine ⟨rfl, List.map_congr_left fun e mem => ?_⟩
        refine (picks e mem).trans (if_congr Iff.rfl rfl ?_)
        rw [(unstamped e mem).2, Option.map_none, ← (unstamped e mem).2]
      · have quiet : r.holdReaches w = r := by
          refine State.holdReaches_other ?_
          rw [held]
          refine other.imp_right fun off e mem key => ?_
          obtain ⟨x, hx, rfl⟩ := List.mem_map.mp mem
          rw [(frame x).2.1]
          exact off x hx ((frame x).1.symm.trans key)
        rw [service, quiet, held]
        cases kept <;> rfl
  · intro complete closing body mine
    let w := e.window
    let r : State := s.accepted.holdReady w
    have member : s.station.state = .joining ∨ s.station.state = .online ∨ s.station.state = .leaving := .inr (.inl online)
    have runs : exec .hold s = .next ((r.holdReaches w).finish codeHold .ok) := by
      rw [exec_hold ready, State.doHold_named (s := s.accepted) member named.symm enabled,
        show (s.accepted.window w).hold = .ready from isOpen]
    have absent : s.engine.key ∉ s.accepted.readyKeys w := fun mem => by
      obtain ⟨-, f, found', -, state⟩ := State.mem_readyKeys.mp mem
      obtain rfl := Option.some.inj (found'.symm.trans found)
      exact nomatch state.symm.trans connected
    have staying : s.accepted.station.state ≠ .leaving := (show s.accepted.station.state = .online from online) ▸ StationState.noConfusion
    let u : State := (s.accepted.readyKeys w).foldl State.parkEntry s.accepted
    obtain ⟨g, queue, aside, -⟩ := State.foldl_parkEntry_shape (s.accepted.readyKeys w) s.accepted
    have kept : u.entry? s.engine.key = some e := (State.entry?_foldl_parkEntry _ absent s.accepted staying).trans found
    have keeps : u.service.entries.any (·.keeps w) = true :=
      List.any_eq_true.mpr ⟨e, (Service.entry?_mem kept).1, by simp [Entry.keeps, w, connected]⟩
    have held : r = u.setHold w .holding := (State.holdReady_eq s.accepted w).trans (if_pos keeps)
    obtain ⟨v, shape, entry, hold⟩ : ∃ v : Service, r = { s.accepted with service := v } ∧ v.entry? s.engine.key = some e ∧
        (({ s.accepted with service := v } : State).window w).hold = .holding := by
      refine ⟨(u.setHold w .holding).service, ?_, kept, ?_⟩
      · rw [held, show u = _ from aside]
        rfl
      · exact congrArg (·.hold) ((u.window_setHold w w .holding).trans (if_pos rfl))
    obtain ⟨m, read⟩ : ∃ m, ({ s.accepted with service := v } : State).stopRead = { s.accepted with service := v, mover := m } :=
      ⟨_, State.stopRead_eq _⟩
    let q : State := { s.accepted with service := v, mover := m }
    have reaches : r.holdReaches w = q.readPoint := by
      have served : ((v.entry? s.engine.key).any fun x => decide (x.window = w)) = true := by
        rw [entry]
        exact decide_eq_true rfl
      rw [shape]
      refine (if_pos ⟨role, served⟩).trans ((congrArg State.targetPoint ((if_pos sending).trans read)).trans ?_)
      refine (if_pos ⟨role, none, undecided⟩).trans ?_
      rw [show s.accepted.engine.phase = .sending from sending]
    have at' : q.entry? q.engine.key = some e := entry
    have stopped : q.stopped = true := by
      simp only [State.stopped, show q.engine.role = .target from role, at', Option.elim_some,
        show (q.window e.window).hold = .holding from hold]
      simp
    refine ⟨fun empty short => ?_, fun filled => ?_⟩
    · let z : State := { q with
        engine := { s.engine with closing := some closing }
        mover := { q.mover with buffer := Option.none, stores := [], fetch := Option.none }, port := s.port.giveUp }
      have decided : q.readPoint = z.pump := by
        rw [State.readPoint_held (s := q) empty short stopped, State.entryProgress_of at']
        rfl
      have only : z.pump = { z with bus := z.pump.bus } := by
        rcases z.pump_cases with same | ⟨f, rest, -, -, -, driven⟩ | ⟨c, -, -, -, -, -, -, driven⟩
        · rw [same]
        · rw [driven]
        · rw [driven]
          rfl
      rw [reaches, decided, only] at runs
      refine ⟨_, runs, hold, rfl, rfl, rfl, fun may outbox acked => ?_, fun not => ?_⟩
      · have quiet : z.abortCause? = Option.none :=
          State.abortCause?_eq_none none (.inl fun cancels => nomatch role.symm.trans cancels.1)
        have due : z.closingDue? = some (s.connFrame body) := by
          have first : z.engine.phase ≠ .closing := (show z.engine.phase = .sending from sending) ▸ Phase.noConfusion
          have same : closing.body = body := by
            simp only [closing, body]
            split <;> rfl
          refine (if_pos ⟨first, acked, quiet⟩).trans ?_
          rw [← same]
          rfl
        have driven := State.pump_empty (s := z) outbox ((State.mayDrive_iff z).mpr may)
        rw [due] at driven
        exact congrArg State.bus driven
      · have quiet : z.pump = z := State.pump_of_not_mayDrive fun may => not ((State.mayDrive_iff z).mp may)
        have same : z.pump.bus = z.bus := by rw [quiet]
        exact same
    · have stays : q.readPoint = q := if_pos filled
      rw [reaches, stays] at runs
      exact ⟨_, runs, hold, rfl, rfl⟩

end Sys2Proof.Machine
end

section
/-! LEAVE (O16). -/

namespace Sys2Proof.Machine

/-! ### The slots that have not reached a peer (R26) -/

/-- The SELECTED slot whose call is not out, if there is one. -/
def State.unsentSlots (s : State) : List SlotId :=
  slotIds.filter fun i => (s.slot i).state = .selected && !(s.slot i).callOut

/-- The slots that LEAVE ends, in its order. -/
def State.leavingSlots (s : State) : List SlotId :=
  s.sched.ready ++ slotIds.filter (fun i => (s.slot i).state = .armed) ++ s.unsentSlots

theorem State.mem_leavingSlots {s : State} (lists : SlotLists s) {i : SlotId} : i ∈ s.leavingSlots ↔
    (s.slot i).state = .queued ∨ (s.slot i).state = .armed ∨ ((s.slot i).state = .selected ∧ (s.slot i).callOut = false) := by
  simp [State.leavingSlots, State.unsentSlots, lists.2.2.1, mem_slotIds]

theorem State.nodup_leavingSlots {s : State} (lists : SlotLists s) : s.leavingSlots.Nodup := by
  have distinct : slotIds.Nodup := by decide
  refine (List.Nodup.append lists.1 (distinct.filter _) fun i inReady armed => ?_).append (distinct.filter _) fun i early unsent => ?_
  · have queued := (lists.2.2.1 i).mp inReady
    simp [queued] at armed
  · simp only [State.unsentSlots, mem_filter_slotIds, Bool.and_eq_true, decide_eq_true_eq] at unsent
    simp [lists.2.2.1, unsent.1] at early

/-- The slots that wait for no round: QUEUED and ARMED ones end LEFT. -/
theorem State.leaveSlots_waiting {s : State} (lists : SlotLists s) :
    (s.sched.ready.foldl (fun s i => s.finishSlot i .left) s).finishWhere (fun x => x.state = .armed) .left =
      { s with sched := s.sched.endAll .left (s.sched.ready ++ slotIds.filter fun i => (s.slot i).state = .armed) } := by
  rw [State.foldl_finishSlot (by decide) lists.1 fun i mem => by rw [(lists.2.2.1 i).mp mem]; rfl]
  refine (State.finishWhere_eq _ (by decide) fun x armed => by rw [of_decide_eq_true armed]; rfl).trans ?_
  have same : (slotIds.filter fun i => decide (((s.sched.endAll .left s.sched.ready).slot i).state = .armed)) =
      slotIds.filter fun i => (s.slot i).state = .armed := by
    refine List.filter_congr fun i _ => ?_
    rw [Scheduler.slot_endAll lists.1]
    split
    case isTrue mem => rw [show (s.slot i).state = .queued from (lists.2.2.1 i).mp mem]; rfl
    case isFalse => rfl
  rw [← Scheduler.endAll_append, ← same]
  rfl

/-- A slot that is SELECTED is none of those. -/
theorem State.slot_leaveSlots_waiting {s : State} (lists : SlotLists s) (i : SlotId) :
    (s.sched.endAll .left (s.sched.ready ++ slotIds.filter fun i => (s.slot i).state = .armed)).slot i =
      if (s.slot i).state = .queued ∨ (s.slot i).state = .armed then (s.slot i).ended .left else s.slot i := by
  have distinct : (s.sched.ready ++ slotIds.filter fun i => decide ((s.slot i).state = .armed)).Nodup :=
    (List.nodup_append.mp (State.nodup_leavingSlots lists)).1
  rw [Scheduler.slot_endAll distinct]
  simp only [List.mem_append, mem_filter_slotIds, lists.2.2.1, decide_eq_true_eq]
  rfl

/-- No SELECTED slot with its call not out is left then: nothing else ends. -/
theorem State.leaveSlots_keep {s u : State}
    (waiting : (s.sched.ready.foldl (fun s i => s.finishSlot i .left) s).finishWhere (fun x => x.state = .armed) .left = u)
    (out : ∀ i, u.selected? = some i → (u.slot i).callOut = true) : s.leaveSlots = u := by
  subst waiting
  unfold State.leaveSlots
  dsimp only
  split
  case h_1 i found => exact if_pos (out i found)
  case h_2 => rfl

theorem State.leaveSlots_end {s u : State} {i : SlotId}
    (waiting : (s.sched.ready.foldl (fun s i => s.finishSlot i .left) s).finishWhere (fun x => x.state = .armed) .left = u)
    (found : u.selected? = some i) (unsent : (u.slot i).callOut = false) :
    s.leaveSlots = (u.slotWantGone i).finishSlot i .left := by
  subst waiting
  unfold State.leaveSlots
  dsimp only
  rw [found]
  exact if_neg (by simp [unsent])

theorem State.leaveSlots_of_none {s : State} (lists : SlotLists s)
    (none : ∀ i, (s.slot i).state = .selected → (s.slot i).callOut = true) :
    s.leaveSlots = { s with sched := s.sched.endAll .left s.leavingSlots } := by
  have unsent : s.unsentSlots = [] := List.filter_eq_nil_iff.mpr fun i _ => by
    simpa using fun state => none i state
  rw [State.leavingSlots, unsent, List.append_nil]
  refine State.leaveSlots_keep (State.leaveSlots_waiting lists) fun i found => ?_
  have slot : _ = (if _ then _ else _ : Slot) := State.slot_leaveSlots_waiting lists i
  have selected := List.find?_some found
  simp only [decide_eq_true_eq] at selected
  have own : ¬ ((s.slot i).state = .queued ∨ (s.slot i).state = .armed) := fun both => by
    rw [if_pos both] at slot
    exact nomatch (congrArg Slot.state slot).symm.trans selected
  rw [if_neg own] at slot
  exact (congrArg Slot.callOut slot).trans (none i ((congrArg Slot.state slot).symm.trans selected))

theorem State.slotWantGone_sched (s : State) (c : Scheduler) (i : SlotId) :
    ({ s with sched := c } : State).slotWantGone i = { s.slotWantGone i with sched := c } := by
  by_cases calls : s.calls i
  · by_cases quiet : s.bus.driving = none
    · exact (State.slotWantGone_of_quiet (s := { s with sched := c }) calls quiet).trans
        (congrArg (fun t : State => { t with sched := c }) (State.slotWantGone_of_quiet calls quiet)).symm
    · exact (State.slotWantGone_of_driving (s := { s with sched := c }) calls quiet).trans
        (congrArg (fun t : State => { t with sched := c }) (State.slotWantGone_of_driving calls quiet)).symm
  · exact (State.slotWantGone_of_not_calls (s := { s with sched := c }) calls).trans
      (congrArg (fun t : State => { t with sched := c }) (State.slotWantGone_of_not_calls calls)).symm

theorem State.unsentSlots_of_selected {s : State} (one : OneSelected s) {i : SlotId} (state : (s.slot i).state = .selected)
    (unsent : (s.slot i).callOut = false) : s.unsentSlots = [i] := by
  have each : ∀ j ∈ slotIds, (decide ((s.slot j).state = .selected) && !(s.slot j).callOut) = decide (j = i) := by
    intro j _
    by_cases same : j = i
    · simp [same, state, unsent]
    · simpa [same] using fun sel => absurd (one j i sel state) same
  rw [State.unsentSlots, List.filter_congr each]
  fin_cases i <;> rfl

theorem State.leaveSlots_of_selected {s : State} (lists : SlotLists s) (one : OneSelected s) {i : SlotId}
    (state : (s.slot i).state = .selected) (unsent : (s.slot i).callOut = false) :
    s.leaveSlots = { s.slotWantGone i with sched := s.sched.endAll .left s.leavingSlots } := by
  let c := s.sched.endAll .left (s.sched.ready ++ slotIds.filter fun i => decide ((s.slot i).state = .armed))
  let u : State := { s with sched := c }
  have slot (j : SlotId) : u.slot j = if _ then _ else _ := State.slot_leaveSlots_waiting lists j
  have keeps (j : SlotId) : (u.slot j).state = .selected → (s.slot j).state = .selected := by
    rw [slot]
    split
    case isTrue own => exact fun ended => nomatch ended
    case isFalse => exact id
  have same : u.slot i = s.slot i := by rw [slot, if_neg (by simp [state])]
  have found : u.selected? = some i := State.selected?_of_oneSelected
    (fun j k sj sk => one j k (keeps j sj) (keeps k sk)) (same ▸ state)
  have live : ((u.slotWantGone i).slot i).state.live = true := by rw [State.slot_slotWantGone, same, state]; rfl
  have sched : (u.slotWantGone i).sched = c := by rw [State.slotWantGone_sched]
  rw [State.leaveSlots_end (State.leaveSlots_waiting lists) found (same ▸ unsent), State.finishSlot_of_live live (by decide), sched,
    State.slotWantGone_sched, State.leavingSlots, State.unsentSlots_of_selected one state unsent, ← Scheduler.endAll_append]
  rfl

/-! ### The PARKED entries (R48) -/

/-- An entry when the station begins to leave. -/
def Entry.onLeave (e : Entry) : Entry :=
  if e.state = .parked then
    { e with state := .withdrawDue, withdrawReason := some .leaving, stamp := none, parkTimer := none }
  else e

theorem State.leaveEntries_eq {s : State} (table : s.service.Table) (parks : s.service.Parks) :
    s.leaveEntries = { s with service := { s.service with
      entries := s.service.entries.map Entry.onLeave, queue := s.service.queue ++ s.parkedKeys fun _ => true } } := by
  refine (State.foldl_parkedKeys (t := s) Entry.leaving_blind table parks rfl rfl).trans ?_
  have each : ∀ e ∈ s.service.entries, (if (true && decide (e.state = .parked)) = true then
        { e.leaving with stamp := none, parkTimer := none }
      else { e with stamp := e.stamp.map fun n =>
        n - (s.service.entries.filter fun x => (true && decide (x.state = .parked)) && x.stamp.any (· < n)).length }) =
      e.onLeave := by
    intro e mem
    unfold Entry.onLeave
    by_cases parked : e.state = .parked
    · rw [if_pos (by simp [parked]), if_pos parked]
      rfl
    · rw [if_neg (by simp [parked]), if_neg parked, parks.stamp_of_unparked mem parked, Option.map_none]
      have none := parks.stamp_of_unparked mem parked
      cases e
      simp only at none
      rw [none]
  rw [List.map_congr_left each]

/-! ### The command -/

/-- A flag that is raised twice is set once (R168). -/
theorem HostInterface.raised_raised (h : HostInterface) (e : Event) : (h.raised e).raised e = h.raised e := by
  unfold HostInterface.raised
  rw [BitVec.or_assoc, BitVec.or_self]

/-- The station that begins to leave. -/
def State.leaving (s : State) : State :=
  { s.accepted with station := { s.station with state := .leaving }, host := s.accepted.host.raised .stateChanged }

theorem exec_leave {s : State} (ready : s.host.busy = false) (online : s.station.state = .online) :
    exec .leave s = .next ((s.leaving.leaveSlots.leaveEntries.drainTest).finish codeLeave .ok) :=
  next_congr ((State.takeCommand_ready _ ready).trans ((if_pos online).trans rfl))

/-- The tables after LEAVE, whatever it does to the Engine. -/
theorem State.leave_tables {s u : State} (lists : SlotLists s) (table : s.service.Table) (parks : s.service.Parks)
    (left : s.leaving.leaveSlots = u) (sched : u.sched = s.sched.endAll .left s.leavingSlots) :
    let t := (u.leaveEntries.drainTest).finish codeLeave .ok
    (∀ i, t.slot i =
      if (s.slot i).state = .queued ∨ (s.slot i).state = .armed ∨
          ((s.slot i).state = .selected ∧ (s.slot i).callOut = false) then (s.slot i).ended .left
      else s.slot i) ∧
    t.sched.ready = [] ∧
    t.sched.finished = s.sched.finished ++ s.sched.ready ++ slotIds.filter (fun i => (s.slot i).state = .armed) ++
      s.unsentSlots ∧
    t.service.entries = s.service.entries.map Entry.onLeave ∧
    t.service.queue = s.service.queue ++ s.parkedKeys (fun _ => true) := by
  intro t
  have service : u.service = s.service := left ▸ (State.leaveSlots_frame s.leaving).2.1
  have entries : u.leaveEntries = { u with service := { s.service with
      entries := s.service.entries.map Entry.onLeave, queue := s.service.queue ++ s.parkedKeys fun _ => true } } := by
    rw [State.leaveEntries_eq (service ▸ table) (service ▸ parks), service]
    simp only [State.parkedKeys, service]
  have scheds : t.sched = s.sched.endAll .left s.leavingSlots := by
    show u.leaveEntries.drainTest.sched = _
    rw [(State.drainTest_frame _).2.1, entries]
    exact sched
  have tables : t.service.entries = s.service.entries.map Entry.onLeave ∧
      t.service.queue = s.service.queue ++ s.parkedKeys fun _ => true := by
    show u.leaveEntries.drainTest.service.entries = _ ∧ u.leaveEntries.drainTest.service.queue = _
    rcases State.drainTest_cases u.leaveEntries with ⟨-, same⟩ | ⟨-, same⟩
    · rw [same, entries]
      exact ⟨rfl, rfl⟩
    · rw [same, entries]
      exact ⟨rfl, rfl⟩
  refine ⟨fun i => ?_, ?_, ?_, tables⟩
  · show t.sched.slot i = _
    rw [scheds, Scheduler.slot_endAll (State.nodup_leavingSlots lists)]
    exact if_congr (State.mem_leavingSlots lists) rfl rfl
  · rw [scheds, Scheduler.ready_endAll, lists.1.sdiff_eq_filter]
    refine List.filter_eq_nil_iff.mpr fun i mem => ?_
    simpa [State.leavingSlots] using fun out _ => absurd mem out
  · rw [scheds, Scheduler.finished_endAll, State.leavingSlots]
    simp only [List.append_assoc]

/-- The entered want is gone, whatever becomes of the call (R69). -/
theorem State.entered_slotWantGone (s : State) (i : SlotId) :
    (s.slotWantGone i).arb.entered = s.arb.entered.map fun e => if e.want = .connect i then { e with gone := true } else e := by
  by_cases calls : s.calls i
  · by_cases quiet : s.bus.driving = none
    · rw [State.slotWantGone_of_quiet calls quiet]
      rfl
    · rw [State.slotWantGone_of_driving calls quiet]
      rfl
  · rw [State.slotWantGone_of_not_calls calls]
    rfl

/-- The drain test of LEAVE asks whether anything was there before it. -/
theorem State.drained_leave {s u : State} (lists : SlotLists s) (table : s.service.Table) (parks : s.service.Parks)
    (left : u = { s.leaving with sched := s.sched.endAll .left s.leavingSlots }) : u.leaveEntries.drained = true ↔
      (∀ i, (s.slot i).state = .free) ∧ s.service.entries = [] ∧ s.engine.phase = .idle := by
  subst left
  rw [State.leaveEntries_eq (by exact table) (by exact parks), State.drained_iff]
  refine (and_iff_right rfl).trans (and_congr (forall_congr' fun i => ?_) (and_congr List.map_eq_nil_iff Iff.rfl))
  show ((s.sched.endAll .left s.leavingSlots).slot i).state = .free ↔ _
  rw [Scheduler.slot_endAll (State.nodup_leavingSlots lists)]
  split
  case isTrue mem =>
    rw [State.mem_leavingSlots lists] at mem
    exact ⟨fun free => (nomatch free), fun free => by simp [free] at mem⟩
  case isFalse => exact Iff.rfl

/-- With a slot that ended the station is not drained. -/
theorem State.drainTest_leaveEntries {u : State} {i : SlotId} (ended : (u.slot i).state ≠ .free) :
    u.leaveEntries.drainTest = u.leaveEntries :=
  State.drainTest_of_slot (i := i) (by rw [State.slot_of_sched (State.leaveEntries_frame u).2.2.2.2.1 i]; exact ended)

/-- Settles O16: `State.leaveSlots_of_selected` or `State.leaveSlots_of_none`, then `State.leaveEntries_eq` and the drain test. -/
theorem leaveCommand : Obligations.LeaveCommand := by
  intro s ready
  refine ⟨fun other => next_congr ((State.takeCommand_ready _ ready).trans ((if_neg other).trans rfl)),
    fun online lists one table parks => ⟨_, exec_leave ready online, ?_⟩⟩
  by_cases unsent : ∃ i, (s.slot i).state = .selected ∧ (s.slot i).callOut = false
  · obtain ⟨i, state, quiet⟩ := unsent
    have left : s.leaving.leaveSlots = _ := State.leaveSlots_of_selected (s := s.leaving) lists one state quiet
    obtain ⟨slots, noReady, finished, entries, queue⟩ := State.leave_tables lists table parks left rfl
    have busy : (s.leaving.leaveSlots.slot i).state ≠ .free := by
      rw [left]
      show ((s.sched.endAll .left s.leavingSlots).slot i).state ≠ .free
      rw [Scheduler.slot_endAll (State.nodup_leavingSlots lists),
        if_pos ((State.mem_leavingSlots lists).mpr (.inr (.inr ⟨state, quiet⟩)))]
      exact fun free => nomatch free
    have frame := State.leaveEntries_frame s.leaving.leaveSlots
    obtain ⟨-, bus, arb, engine, -⟩ := frame
    rw [← left] at slots noReady finished entries queue
    refine ⟨slots, noReady, finished, entries, queue, fun j sel unsent => ?_, fun none => absurd state (none i),
      fun idle => absurd state (by rw [idle.1 i]; decide)⟩
    obtain rfl := one i j state sel
    rw [State.drainTest_leaveEntries busy]
    dsimp only [State.finish, State.raise]
    rw [arb, engine, bus, left]
    refine ⟨?_, fun other => ?_, fun calls driving => ?_, fun calls driving => ?_⟩
    · exact State.entered_slotWantGone s.leaving i
    · rw [State.slotWantGone_of_not_calls (s := s.leaving) other]
      exact ⟨rfl, rfl⟩
    · rw [State.slotWantGone_of_driving (s := s.leaving) calls driving]
      exact ⟨rfl, rfl⟩
    · rw [State.slotWantGone_of_quiet (s := s.leaving) calls driving]
      exact ⟨rfl, rfl, rfl⟩
  · have out (i : SlotId) (state : (s.slot i).state = .selected) : (s.slot i).callOut = true := by
      by_contra quiet
      exact unsent ⟨i, state, by simpa using quiet⟩
    have left : s.leaving.leaveSlots = _ := State.leaveSlots_of_none (s := s.leaving) lists out
    obtain ⟨slots, noReady, finished, entries, queue⟩ := State.leave_tables lists table parks left rfl
    rw [← left] at slots noReady finished entries queue
    refine ⟨slots, noReady, finished, entries, queue, fun i sel quiet => absurd ⟨i, sel, quiet⟩ unsent, fun _ work => ?_,
      fun idle => ?_⟩
    · have rest := State.drainTest_of_not_drained (Bool.eq_false_iff.mpr fun drained =>
        work ((State.drained_leave lists table parks left).mp drained))
      rw [rest, State.leaveEntries_eq (by rw [left]; exact table) (by rw [left]; exact parks), left]
      rfl
    · have drained := (State.drained_leave lists table parks left).mpr idle
      rw [State.drainTest, if_pos drained, State.leaveEntries_eq (by rw [left]; exact table) (by rw [left]; exact parks), left]
      have host := congrArg (fun h : HostInterface => h.answered codeLeave .ok) (s.accepted.host.raised_raised .stateChanged)
      exact ⟨rfl, rfl, host⟩

end Sys2Proof.Machine
end

section
/-! Frames on the wire: what a receiver reads of the bytes that a station drives (O13). -/

namespace Sys2Proof.Machine

/-! ### Bytes and nibbles (R152, 13.4) -/

@[simp] theorem length_be2 (w : BitVec 16) : (be2 w).length = 2 := rfl

theorem ofBe2_be2 (w : BitVec 16) : ofBe2 (w.extractLsb' 8 8) (w.extractLsb' 0 8) = w := by
  simp only [ofBe2, BitVec.extractLsb'_append_extractLsb'_eq_extractLsb', BitVec.extractLsb'_eq_self]

theorem ofBe4_be4 (w : Word) :
    ofBe4 (w.extractLsb' 24 8) (w.extractLsb' 16 8) (w.extractLsb' 8 8) (w.extractLsb' 0 8) = w := by
  simp only [ofBe4, BitVec.extractLsb'_append_extractLsb'_eq_extractLsb', BitVec.extractLsb'_eq_self]

theorem hiNibble_nibbles (hi lo : Fin 16) : hiNibble (nibbles hi lo) = hi := by
  apply Fin.ext
  simp only [hiNibble, nibbles, BitVec.toNat_ofNat, Fin.val_ofNat]
  omega

theorem loNibble_nibbles (hi lo : Fin 16) : loNibble (nibbles hi lo) = lo := by
  apply Fin.ext
  simp only [loNibble, nibbles, BitVec.toNat_ofNat, Fin.val_ofNat]
  omega

/-! ### The fields of each kind (R55) -/

theorem toNat_ofNat_of_le {n : Nat} (range : n ≤ Config.maxLength) : (BitVec.ofNat 32 n).toNat = n := by
  rw [BitVec.toNat_ofNat]
  exact Nat.mod_eq_of_lt (lt_of_le_of_lt range (by decide))

theorem offsetField?_ofNat {n : Nat} (range : n ≤ Config.maxLength) : offsetField? (BitVec.ofNat 32 n) = some n := by
  have value := toNat_ofNat_of_le range
  rw [offsetField?_of_le (value.symm ▸ range), value]

theorem totalField?_ofNat {n : Nat} (least : 1 ≤ n) (most : n ≤ Config.maxLength) :
    totalField? (BitVec.ofNat 32 n) = some n := by
  have value := toNat_ofNat_of_le most
  unfold totalField?
  rw [value]
  exact if_pos ⟨least, most⟩

/-- The payload's length is read from the byte before it, which holds one less. -/
theorem length_eq_of_field {p : List Byte} (least : 1 ≤ p.length) (most : p.length ≤ Config.frameBytes) :
    p.length = (BitVec.ofNat 8 (p.length - 1)).toNat + 1 := by
  have most : p.length ≤ 256 := most
  rw [BitVec.toNat_ofNat]
  omega

theorem decodeBody_fields {b : Body} (wf : b.wf = true) : decodeBody b.kindCode.toNat b.fields = some b := by
  cases b with
  | connect op w o l => exact congrArg₂ (fun o l => some (Body.connect op w o l)) (ofBe4_be4 o) (ofBe4_be4 l)
  | accept o =>
    refine (congrArg (fun w => (offsetField? w).map Body.accept) (ofBe4_be4 _)).trans ?_
    rw [offsetField?_ofNat (of_decide_eq_true wf)]
    rfl
  | refuse r => exact congrArg (Option.map Body.refuse) r.ofCode?_code
  | data q p =>
    obtain ⟨least, most⟩ := of_decide_eq_true wf
    refine (if_pos (length_eq_of_field least most)).trans ?_
    rw [seqField?_ofNat]
    rfl
  | ack q => exact congrArg (Option.map Body.ack) (seqField?_ofNat q)
  | nak q => exact congrArg (Option.map Body.nak) (seqField?_ofNat q)
  | finish t =>
    obtain ⟨least, most⟩ := of_decide_eq_true wf
    refine (congrArg (fun w => (totalField? w).map Body.finish) (ofBe4_be4 _)).trans ?_
    rw [totalField?_ofNat least most]
    rfl
  | disconnect r o =>
    refine (congrArg₂ (fun r w => Option.bind r fun r => (offsetField? w).map (Body.disconnect r ·)) r.ofCode?_code
      (ofBe4_be4 _)).trans ?_
    rw [offsetField?_ofNat (of_decide_eq_true wf)]
    rfl
  | resume o =>
    refine (congrArg (fun w => (offsetField? w).map Body.resume) (ofBe4_be4 _)).trans ?_
    rw [offsetField?_ofNat (of_decide_eq_true wf)]
    rfl
  | withdraw r => exact congrArg (Option.map Body.withdraw) r.ofCode?_code
  | abort r => exact congrArg (Option.map Body.abort) r.ofCode?_code
  | rollcall n => exact congrArg (fun n => some (Body.rollcall n)) (ofBe2_be2 n)
  | endConnection => rfl
  | present => rfl

/-! ### A whole frame -/

theorem decodeContent_content {f : Frame} (wf : f.wf = true) : decodeContent f.content = some f := by
  have body : f.body.wf = true := (Bool.and_eq_true_iff.mp wf).1
  have head : (⟨hiNibble (nibbles f.head.src f.head.dst), loNibble (nibbles f.head.src f.head.dst),
      hiNibble (nibbles f.head.slot f.head.gen), loNibble (nibbles f.head.slot f.head.gen)⟩ : FrameHead) = f.head := by
    simp only [hiNibble_nibbles, loNibble_nibbles]
  rw [Frame.content, decodeContent, decodeBody_fields body, Option.bind_some, head]
  exact if_pos wf

/-- Settles O13: the CRC is the last two bytes and agrees; the content before it is read back field by field. -/
theorem frameRoundTrip : Obligations.FrameRoundTrip := by
  intro f wf
  have content : f.encode.take (f.encode.length - 2) = f.content := by simp [Frame.encode]
  have crcBytes : f.encode.drop (f.encode.length - 2) = be2 (crc f.content) := by simp [Frame.encode]
  rw [Frame.decode, content, if_pos crcBytes]
  exact decodeContent_content wf

end Sys2Proof.Machine
end

section
/-! The Engine's work and the station ID (O11). The invariant of `ProgressBounded` does not say that a CONFIGURING station has an
IDLE Engine. In a state that only satisfies the invariant, the values that a JOIN brings into force (R155) can change this
station's ID while the Engine still answers a call, and so make an ACCEPT under another ID a frame of its connection. -/

namespace Sys2Proof.Machine

/-- A legal configuration block for station 5: a ring of 16 places at 4096, every window disabled. -/
def stationFiveBlock : List Byte :=
  [5, 0, 9, 0, 20, 20, 2, 0, 2, 0, 4, 0, 16, 0, 4, 0, 0, 16, 0, 0] ++ List.replicate 140 0

/-- An ACCEPT that bears the ID of station 5. -/
def acceptOfFive : Frame := ⟨⟨5, 0, 0, 0⟩, .accept 0⟩

/-- A CONFIGURING station, ID 0 by default, that reads the last byte of its block while its Engine answers a call and an ACCEPT of
station 5 is on the data path. -/
def answeringWhileConfiguring : State := { State.reset with
  station := { State.reset.station with state := .configuring }
  engine := { Engine.idle with phase := .answering, busRole := .answering }
  bus := { State.reset.bus with view := .held, driving := some acceptOfFive }
  port := { State.reset.port with current := some ⟨.loader, .read 159 1, .running⟩ }
  loader := some ⟨.config, 0, stationFiveBlock.take 159, false⟩
  pending := [.configLoadEnds [0]] }

/-- The ACCEPT is not this station's: the station's ID is 0. -/
theorem answeringWhileConfiguring_accept : answeringWhileConfiguring.ownsFrame acceptOfFive = false := by decide

theorem answeringWhileConfiguring_work : ExchangeWork answeringWhileConfiguring where
  entered := nofun
  idle := fun idle => nomatch idle
  within := ⟨nofun, nofun, fun held => absurd rfl held⟩
  gone := nofun
  calls := fun calling => nomatch calling
  target := fun _ _ => nofun
  initiator := fun _ => by
    refine ⟨fun calling => (nomatch calling), ?_⟩
    rintro (sending | receiving | awaiting | ⟨-, f, mem, o, -, owned⟩)
    · exact nomatch sending
    · exact nomatch receiving
    · exact nomatch awaiting
    · obtain rfl : f = acceptOfFive := List.mem_singleton.mp mem
      exact absurd owned (by rw [answeringWhileConfiguring_accept]; exact Bool.false_ne_true)

/-- Its tables are the empty ones of the reset state. -/
theorem answeringWhileConfiguring_invariant :
    SlotLists answeringWhileConfiguring ∧ OneSelected answeringWhileConfiguring ∧ ServiceTable answeringWhileConfiguring ∧
      ExchangeWork answeringWhileConfiguring ∧ ProgressBound answeringWhileConfiguring := by
  obtain ⟨lists, one, table, -, -, -, -, -, -, -, bound⟩ := invariantsAtReset
  exact ⟨lists, one, table, answeringWhileConfiguring_work, bound⟩

/-- The last byte brings ID 5 into force and leaves the Engine, the frame and the slots as they are. -/
theorem answeringWhileConfiguring_step : ∃ t, step answeringWhileConfiguring = .next t ∧
    t.engine = answeringWhileConfiguring.engine ∧ t.bus = answeringWhileConfiguring.bus ∧
    t.sched = answeringWhileConfiguring.sched ∧ t.ownId = 5 := by
  have legal : (parseConfig (stationFiveBlock.take 159 ++ [0])).failing? = none := by decide +kernel
  obtain ⟨t, runs, fields, -⟩ := (configLoadEnds.1 { answeringWhileConfiguring with pending := [] } [0]
    (stationFiveBlock.take 159) 159 1 0 rfl rfl rfl (by simp [stationFiveBlock]) rfl rfl).2 legal
  have five : (parseConfig (stationFiveBlock.take 159 ++ [0])).settings.id = 5 := by decide +kernel
  refine ⟨t, runs, ?_⟩
  rw [fields]
  exact ⟨rfl, rfl, rfl, five⟩

/-- Refutes O11: the step takes a state that satisfies the invariant to one where the ACCEPT on the data path is this station's
and the slot of its connection is FREE. -/
theorem not_progressBounded : ¬ Obligations.ProgressBounded := by
  intro kept
  obtain ⟨t, runs, engine, bus, sched, id⟩ := answeringWhileConfiguring_step
  obtain ⟨-, -, -, work, -⟩ := kept _ t answeringWhileConfiguring_invariant runs
  have answering : t.engine.phase = .answering := by rw [engine]; rfl
  have driven : acceptOfFive ∈ t.bus.frames := by rw [bus]; exact List.mem_cons_self
  have owned : t.ownsFrame acceptOfFive = true := by
    refine (State.ownsFrame_iff _ _).mpr ⟨fun idle => (nomatch answering.symm.trans idle), ?_⟩
    unfold State.connFrame
    rw [id, engine]
    rfl
  have active := (work.initiator (by rw [engine]; rfl)).2 (.inr (.inr (.inr ⟨answering, _, driven, 0, rfl, owned⟩)))
  have free : t.ownSlot.state = .free := by
    have blank : t.slot t.engine.tag.slot = Slot.blank 0 :=
      (State.slot_of_sched (s := State.reset) sched _).trans (State.reset.slot_powerOn 0 false _)
    exact congrArg Slot.state blank
  exact nomatch free.symm.trans active.1

end Sys2Proof.Machine
end
